-- ==== Sys2Proof/Word.lean ====
section
/-! DEFINITION. The word types of KBD-FE (R11, R52, R70): every value of the block is an unsigned bit string of a fixed
width, numbered from bit 0 at the least significant end. -/

namespace Sys2Proof

/-- The block's only data width: a byte `u8` (R5 `DATA_BITS`, R52). -/
abbrev Byte := BitVec 8

/-- Format `AT11`, the frame word of a bidirectional protocol (R71). -/
abbrev AtFrame := BitVec 11

/-- Format `XT9`, the frame word of XT (R72). -/
abbrev XtFrame := BitVec 9

/-- The container in which the receiver hands over a frame word; bits above the frame are not part of it (R73).
The spec gives no container width: DESIGN CHOICE, 16 bits (log entry 6). -/
abbrev RawWord := BitVec 16

/-- Format `TX9`, the argument of `send_command` (R78). -/
abbrev TxFrame := BitVec 9

/-- A ring index `u5` (R7 `IDX_BITS`, R21); its arithmetic wraps modulo 32. -/
abbrev Index := BitVec 5

/-- `popcount(v)`: the number of 1 bits of a byte (R11). -/
def popcount (b : Byte) : Nat :=
  (b.getLsbD 0).toNat + (b.getLsbD 1).toNat + (b.getLsbD 2).toNat + (b.getLsbD 3).toNat
    + (b.getLsbD 4).toNat + (b.getLsbD 5).toNat + (b.getLsbD 6).toNat + (b.getLsbD 7).toNat

end Sys2Proof
end

