-- ==== Sys2Proof/Config.lean ====
section
/-! DEFINITION. What an instance of KBD-FE is configured with (R5 to R8): the protocol, the code set, the framing
parameters and the translation tables, as plain data, and the values the spec leaves open, as constants without a body. -/

namespace Sys2Proof

/-- The frame protocol `PROTO` (R8). -/
inductive Proto where
  | atPs2
  | xt
deriving DecidableEq, Repr

/-- The scan-code set `CODESET` (R8). -/
inductive CodeSet where
  | set1
  | set2
  | set3
  | amiga
  | m0110
deriving DecidableEq, Repr

/-- The framing parameters of R7: which start and stop bits are good, and the resend command byte. -/
structure Framing where
  /-- `AT_START_EXPECT` -/
  atStart : Bool
  /-- `AT_STOP_EXPECT` -/
  atStop : Bool
  /-- `XT_START_EXPECT` -/
  xtStart : Bool
  /-- `CMD_RESEND` -/
  cmdResend : Byte
deriving DecidableEq, Repr

/-- A constant table from an `n`-bit index to a byte (R50 `TBL`): the entries that are not 0, by index. Every index that
is not listed holds 0, "no event" (R145), so the table is total on its index space. -/
abbrev Table (n : Nat) := List (BitVec n × Byte)

/-- The entry of a table at an index; an index that is not listed holds 0. -/
def tableGet {n : Nat} (t : Table n) (i : BitVec n) : Byte :=
  match t with
  | [] => 0
  | (k, v) :: rest => if k = i then v else tableGet rest i

/-- `SET3_REMAP`: exactly three pairs `(from, to)` (R208). -/
structure Remap where
  first : Byte × Byte
  second : Byte × Byte
  third : Byte × Byte
deriving DecidableEq, Repr, Inhabited

/-- The tables and codes the spec names and gives no value for (R6). -/
structure Tables where
  /-- `SET1_E0_XLAT` (R157) -/
  set1E0 : Table 8
  /-- `SET1_PAUSE_CODE` -/
  set1Pause : Byte
  /-- `SET2_E0_XLAT` (R198) -/
  set2E0 : Table 8
  /-- `SET2_PAUSE_CODE` -/
  set2Pause : Byte
  /-- `SET2_ALIAS_83` -/
  set2Alias83 : Byte
  /-- `SET2_ALIAS_84` -/
  set2Alias84 : Byte
  /-- `SET3_REMAP` (R208) -/
  set3Remap : Remap
  /-- `AMIGA_MAX_KEY`, 0 to 127 -/
  amigaMaxKey : BitVec 7
  /-- `M0110_MAP_79` (R227) -/
  m0110Map79 : Table 6
  /-- `M0110_MAP_71_79` (R227) -/
  m0110Map7179 : Table 6
deriving DecidableEq, Repr, Inhabited

/-- The constraint of R208 on `SET3_REMAP`: the three `from` values are distinct and none is 0xF0. -/
def Remap.wf (r : Remap) : Bool :=
  r.first.1 != r.second.1 && r.first.1 != r.third.1 && r.second.1 != r.third.1
    && r.first.1 != 0xF0#8 && r.second.1 != 0xF0#8 && r.third.1 != 0xF0#8

/-- All the spec lets one assume of the tables: the two entries R158 pins and the constraint of R208. -/
def Tables.wf (t : Tables) : Bool :=
  tableGet t.set1E0 0x1D#8 != 0#8 && tableGet t.set1E0 0x2A#8 == 0#8 && t.set3Remap.wf

/-- The tables an implementation supplies (R6, R305 step 1); no value of any of them is known. -/
opaque Config.suppliedTables : Tables

/-- Some tables that meet the constraints. Used only to say that the tables of the machine meet them. -/
def Config.admissibleTables : Tables :=
  { set1E0 := [(0x1D#8, 1#8)], set1Pause := 0#8, set2E0 := [], set2Pause := 0#8, set2Alias83 := 0#8, set2Alias84 := 0#8,
    set3Remap := { first := (0#8, 0#8), second := (1#8, 0#8), third := (2#8, 0#8) }, amigaMaxKey := 0#7,
    m0110Map79 := [], m0110Map7179 := [] }

/-- The tables of the machine after reset: the supplied ones, held to the constraints of R158 and R208. Nothing else is
known of them (log entry 4). -/
def Config.tables : Tables :=
  if Config.suppliedTables.wf then Config.suppliedTables else Config.admissibleTables

/-- The framing defaults of R7: AT/PS2 start 0 and stop 1, XT start 1, resend 0xFE. PRESUMED: the spec marks them as
general knowledge and not its source's (log entry 3). -/
def Config.framing : Framing :=
  { atStart := false, atStop := true, xtStart := true, cmdResend := 0xFE#8 }

/-- The `n`th byte that a read of an unspecified byte gives (R23, R125, U2, U3): free, nothing constrains it. -/
opaque Config.freeByte : Nat → Byte

end Sys2Proof
end

