-- ==== Sys2Proof/Syntax.lean ====
section
/-! DEFINITION. The operations of KBD-FE as syntax: one constructor of `Instr` for each row of spec/opcode_table.json, and
the values their operands and results are made of. -/

namespace Sys2Proof

/-- A key event: `code` and `make`, true for a press (R79, R144). -/
structure KeyEvent where
  code : Byte
  make : Bool
deriving DecidableEq, Repr

/-- The session's answer to `on_byte` (R31, R232, R251). -/
inductive Action where
  /-- `SendCommand(c)` -/
  | sendCommand (c : Byte)
  /-- `EnqueueForDecoding` -/
  | enqueueForDecoding
  /-- `None` -/
  | none
deriving DecidableEq, Repr

/-- Decoder states of Set 1 (R25). -/
inductive S1State where
  | init
  | e0
  | e1
  | e1x1D
  | e1x9D
deriving DecidableEq, Repr

/-- Decoder states of Set 2 (R25). -/
inductive S2State where
  | init
  | f0
  | e0
  | e0F0
  | e1
  | e1x14
  | e1F0
  | e1F0x14
  | e1F0x14F0
deriving DecidableEq, Repr

/-- Decoder states of Set 3 (R25). -/
inductive S3State where
  | init
  | f0
deriving DecidableEq, Repr

/-- The one decoder state of Amiga (R25). -/
inductive AmigaState where
  | init
deriving DecidableEq, Repr

/-- Decoder states of Apple M0110 (R25). -/
inductive M0State where
  | init
  | p79
  | p71
  | p71x79
deriving DecidableEq, Repr

/-- `dec.state`, with the code set it belongs to: each code set has an enumeration of its own, and a state of one set is
not a value of another (R25). The constructor is `CODESET` (log entry 20). -/
inductive DecState where
  | set1 (st : S1State)
  | set2 (st : S2State)
  | set3 (st : S3State)
  | amiga (st : AmigaState)
  | m0110 (st : M0State)
deriving DecidableEq, Repr

/-- The code set a decoder state belongs to: `CODESET` (R33). -/
def DecState.codeSet : DecState → CodeSet
  | .set1 _ => .set1
  | .set2 _ => .set2
  | .set3 _ => .set3
  | .amiga _ => .amiga
  | .m0110 _ => .m0110

/-- `INIT` of a code set's enumeration (R25, R300). -/
def DecState.initOf : CodeSet → DecState
  | .set1 => .set1 .init
  | .set2 => .set2 .init
  | .set3 => .set3 .init
  | .amiga => .amiga .init
  | .m0110 => .m0110 .init

/-- The two agents that execute operations (R9): the interrupt context `P` and the task context `C`. -/
inductive Agent where
  /-- `P` -/
  | producer
  /-- `C` -/
  | consumer
deriving DecidableEq, Repr

/-- The operations: the frame classes (R76, R77), the ten calls (R85) and the decoder byte classes (R86). A class that one
byte makes up has no operand; every other class has the word or byte that falls in it. -/
inductive Instr where
  /-- `RX.AT.BADSTART` -/
  | rxAtBadStart (w : AtFrame)
  /-- `RX.AT.BADSTOP` -/
  | rxAtBadStop (w : AtFrame)
  /-- `RX.AT.BADPARITY` -/
  | rxAtBadParity (w : AtFrame)
  /-- `RX.AT.OK` -/
  | rxAtOk (w : AtFrame) (a : Action)
  /-- `RX.XT.BADSTART` -/
  | rxXtBadStart (w : XtFrame)
  /-- `RX.XT.OK` -/
  | rxXtOk (w : XtFrame) (a : Action)
  /-- `SETUP` -/
  | setup (proto : Proto) (codeset : CodeSet)
  /-- `RX.AT` -/
  | rxAt (w : AtFrame) (a : Action)
  /-- `RX.XT` -/
  | rxXt (w : XtFrame) (a : Action)
  /-- `RB.IS_EMPTY` -/
  | rbIsEmpty
  /-- `RB.IS_FULL` -/
  | rbIsFull
  /-- `RB.PUT` -/
  | rbPut (b : Byte)
  /-- `RB.GET` -/
  | rbGet
  /-- `RB.RESET` -/
  | rbReset
  /-- `DEC.FEED` -/
  | decFeed (b : Byte)
  /-- `TASK.ITER` -/
  | taskIter (now : Nat) (ready : Bool)
  /-- `DEC.S1.INIT.E0` -/
  | s1InitOnE0
  /-- `DEC.S1.INIT.E1` -/
  | s1InitOnE1
  /-- `DEC.S1.INIT.MAKE` -/
  | s1InitOnMake (b : Byte)
  /-- `DEC.S1.INIT.BREAK` -/
  | s1InitOnBreak (b : Byte)
  /-- `DEC.S1.E0.MAKE` -/
  | s1E0OnMake (b : Byte)
  /-- `DEC.S1.E0.BREAK` -/
  | s1E0OnBreak (b : Byte)
  /-- `DEC.S1.E1.1D` -/
  | s1E1On1d
  /-- `DEC.S1.E1.9D` -/
  | s1E1On9d
  /-- `DEC.S1.E1.OTHER` -/
  | s1E1OnOther (b : Byte)
  /-- `DEC.S1.E1_1D.45` -/
  | s1E1x1DOn45
  /-- `DEC.S1.E1_1D.OTHER` -/
  | s1E1x1DOnOther (b : Byte)
  /-- `DEC.S1.E1_9D.C5` -/
  | s1E1x9DOnC5
  /-- `DEC.S1.E1_9D.OTHER` -/
  | s1E1x9DOnOther (b : Byte)
  /-- `DEC.S2.INIT.E0` -/
  | s2InitOnE0
  /-- `DEC.S2.INIT.F0` -/
  | s2InitOnF0
  /-- `DEC.S2.INIT.E1` -/
  | s2InitOnE1
  /-- `DEC.S2.INIT.A83` -/
  | s2InitOnA83
  /-- `DEC.S2.INIT.A84` -/
  | s2InitOnA84
  /-- `DEC.S2.INIT.MAKE` -/
  | s2InitOnMake (b : Byte)
  /-- `DEC.S2.INIT.OTHER` -/
  | s2InitOnOther (b : Byte)
  /-- `DEC.S2.F0.A83` -/
  | s2F0OnA83
  /-- `DEC.S2.F0.A84` -/
  | s2F0OnA84
  /-- `DEC.S2.F0.BREAK` -/
  | s2F0OnBreak (b : Byte)
  /-- `DEC.S2.F0.OTHER` -/
  | s2F0OnOther (b : Byte)
  /-- `DEC.S2.E0.F0` -/
  | s2E0OnF0
  /-- `DEC.S2.E0.KEY` -/
  | s2E0OnKey (b : Byte)
  /-- `DEC.S2.E0.OTHER` -/
  | s2E0OnOther (b : Byte)
  /-- `DEC.S2.E0_F0.KEY` -/
  | s2E0F0OnKey (b : Byte)
  /-- `DEC.S2.E0_F0.OTHER` -/
  | s2E0F0OnOther (b : Byte)
  /-- `DEC.S2.E1.14` -/
  | s2E1On14
  /-- `DEC.S2.E1.F0` -/
  | s2E1OnF0
  /-- `DEC.S2.E1.OTHER` -/
  | s2E1OnOther (b : Byte)
  /-- `DEC.S2.E1_14.77` -/
  | s2E1x14On77
  /-- `DEC.S2.E1_14.OTHER` -/
  | s2E1x14OnOther (b : Byte)
  /-- `DEC.S2.E1_F0.14` -/
  | s2E1F0On14
  /-- `DEC.S2.E1_F0.OTHER` -/
  | s2E1F0OnOther (b : Byte)
  /-- `DEC.S2.E1_F0_14.F0` -/
  | s2E1F0x14OnF0
  /-- `DEC.S2.E1_F0_14.OTHER` -/
  | s2E1F0x14OnOther (b : Byte)
  /-- `DEC.S2.E1_F0_14_F0.77` -/
  | s2E1F0x14F0On77
  /-- `DEC.S2.E1_F0_14_F0.OTHER` -/
  | s2E1F0x14F0OnOther (b : Byte)
  /-- `DEC.S3.INIT.F0` -/
  | s3InitOnF0
  /-- `DEC.S3.INIT.REMAP` -/
  | s3InitOnRemap (b : Byte)
  /-- `DEC.S3.INIT.MAKE` -/
  | s3InitOnMake (b : Byte)
  /-- `DEC.S3.INIT.OTHER` -/
  | s3InitOnOther (b : Byte)
  /-- `DEC.S3.F0.REMAP` -/
  | s3F0OnRemap (b : Byte)
  /-- `DEC.S3.F0.BREAK` -/
  | s3F0OnBreak (b : Byte)
  /-- `DEC.S3.F0.OTHER` -/
  | s3F0OnOther (b : Byte)
  /-- `DEC.AM.INIT.KEY` -/
  | amInitOnKey (b : Byte)
  /-- `DEC.AM.INIT.REJECT` -/
  | amInitOnReject (b : Byte)
  /-- `DEC.M0.INIT.BAD0` -/
  | m0InitOnBad0 (b : Byte)
  /-- `DEC.M0.INIT.P79` -/
  | m0InitOnP79
  /-- `DEC.M0.INIT.P71` -/
  | m0InitOnP71
  /-- `DEC.M0.INIT.KEY` -/
  | m0InitOnKey (b : Byte)
  /-- `DEC.M0.P79.BAD0` -/
  | m0P79OnBad0 (b : Byte)
  /-- `DEC.M0.P79.KEY` -/
  | m0P79OnKey (b : Byte)
  /-- `DEC.M0.P71.BAD0` -/
  | m0P71OnBad0 (b : Byte)
  /-- `DEC.M0.P71.79` -/
  | m0P71On79
  /-- `DEC.M0.P71.OTHER` -/
  | m0P71OnOther (b : Byte)
  /-- `DEC.M0.P71_79.BAD0` -/
  | m0P71x79OnBad0 (b : Byte)
  /-- `DEC.M0.P71_79.KEY` -/
  | m0P71x79OnKey (b : Byte)
deriving DecidableEq, Repr

/-- The context that executes an operation (R9, R85, R285); a frame class is part of an operation of `P`, a decoder class
of one of `C`. -/
def Instr.agent : Instr → Agent
  | .rxAtBadStart _ => .producer
  | .rxAtBadStop _ => .producer
  | .rxAtBadParity _ => .producer
  | .rxAtOk _ _ => .producer
  | .rxXtBadStart _ => .producer
  | .rxXtOk _ _ => .producer
  | .setup _ _ => .consumer
  | .rxAt _ _ => .producer
  | .rxXt _ _ => .producer
  | .rbIsEmpty => .consumer
  | .rbIsFull => .producer
  | .rbPut _ => .producer
  | .rbGet => .consumer
  | .rbReset => .consumer
  | .decFeed _ => .consumer
  | .taskIter _ _ => .consumer
  | .s1InitOnE0 => .consumer
  | .s1InitOnE1 => .consumer
  | .s1InitOnMake _ => .consumer
  | .s1InitOnBreak _ => .consumer
  | .s1E0OnMake _ => .consumer
  | .s1E0OnBreak _ => .consumer
  | .s1E1On1d => .consumer
  | .s1E1On9d => .consumer
  | .s1E1OnOther _ => .consumer
  | .s1E1x1DOn45 => .consumer
  | .s1E1x1DOnOther _ => .consumer
  | .s1E1x9DOnC5 => .consumer
  | .s1E1x9DOnOther _ => .consumer
  | .s2InitOnE0 => .consumer
  | .s2InitOnF0 => .consumer
  | .s2InitOnE1 => .consumer
  | .s2InitOnA83 => .consumer
  | .s2InitOnA84 => .consumer
  | .s2InitOnMake _ => .consumer
  | .s2InitOnOther _ => .consumer
  | .s2F0OnA83 => .consumer
  | .s2F0OnA84 => .consumer
  | .s2F0OnBreak _ => .consumer
  | .s2F0OnOther _ => .consumer
  | .s2E0OnF0 => .consumer
  | .s2E0OnKey _ => .consumer
  | .s2E0OnOther _ => .consumer
  | .s2E0F0OnKey _ => .consumer
  | .s2E0F0OnOther _ => .consumer
  | .s2E1On14 => .consumer
  | .s2E1OnF0 => .consumer
  | .s2E1OnOther _ => .consumer
  | .s2E1x14On77 => .consumer
  | .s2E1x14OnOther _ => .consumer
  | .s2E1F0On14 => .consumer
  | .s2E1F0OnOther _ => .consumer
  | .s2E1F0x14OnF0 => .consumer
  | .s2E1F0x14OnOther _ => .consumer
  | .s2E1F0x14F0On77 => .consumer
  | .s2E1F0x14F0OnOther _ => .consumer
  | .s3InitOnF0 => .consumer
  | .s3InitOnRemap _ => .consumer
  | .s3InitOnMake _ => .consumer
  | .s3InitOnOther _ => .consumer
  | .s3F0OnRemap _ => .consumer
  | .s3F0OnBreak _ => .consumer
  | .s3F0OnOther _ => .consumer
  | .amInitOnKey _ => .consumer
  | .amInitOnReject _ => .consumer
  | .m0InitOnBad0 _ => .consumer
  | .m0InitOnP79 => .consumer
  | .m0InitOnP71 => .consumer
  | .m0InitOnKey _ => .consumer
  | .m0P79OnBad0 _ => .consumer
  | .m0P79OnKey _ => .consumer
  | .m0P71OnBad0 _ => .consumer
  | .m0P71On79 => .consumer
  | .m0P71OnOther _ => .consumer
  | .m0P71x79OnBad0 _ => .consumer
  | .m0P71x79OnKey _ => .consumer

end Sys2Proof
end

