-- ==== Sys2Proof/WellFormed.lean ====
section
/-! DEFINITION. Which operations are well formed: the operand of a frame class or of a decoder byte class lies in that
class, as the class tables of the spec say (R76, R77, R150, R170, R200, R210, R215), and in no earlier one (R86). -/

namespace Sys2Proof

/-- The parity law of R101: the 1 bits of the byte and of the parity bit together are odd in number. -/
def parityOdd (data : Byte) (parity : Bool) : Bool :=
  (popcount data + parity.toNat) % 2 == 1

/-- The fields of an AT/PS2 word are as the class conditions of R76 want them: the start bit, the stop bit and the parity
each good or bad. -/
def atBits (fr : Framing) (w : AtFrame) (startGood stopGood parityGood : Bool) : Bool :=
  (w.getLsbD 0 == fr.atStart) == startGood && (w.getLsbD 10 == fr.atStop) == stopGood
    && parityOdd (BitVec.truncate 8 (w >>> 1)) (w.getLsbD 9) == parityGood

/-- `b` is one of the three `from` values of `SET3_REMAP` (R200). -/
def Remap.hasFrom (r : Remap) (b : Byte) : Bool :=
  b == r.first.1 || b == r.second.1 || b == r.third.1

/-- The operand of an operation is one its class admits. -/
def Instr.wf (fr : Framing) (tb : Tables) : Instr → Bool
  | .rxAtBadStart w => w.getLsbD 0 != fr.atStart
  | .rxAtBadStop w => w.getLsbD 0 == fr.atStart && w.getLsbD 10 != fr.atStop
  | .rxAtBadParity w => atBits fr w true true false
  | .rxAtOk w _ => atBits fr w true true true
  | .rxXtBadStart w => w.getLsbD 0 != fr.xtStart
  | .rxXtOk w _ => w.getLsbD 0 == fr.xtStart
  | .setup _ _ => true
  | .rxAt _ _ => true
  | .rxXt _ _ => true
  | .rbIsEmpty => true
  | .rbIsFull => true
  | .rbPut _ => true
  | .rbGet => true
  | .rbReset => true
  | .decFeed _ => true
  | .taskIter _ _ => true
  | .s1InitOnE0 => true
  | .s1InitOnE1 => true
  | .s1InitOnMake b => b < 0x80#8
  | .s1InitOnBreak b => !(b < 0x80#8) && b != 0xE0#8 && b != 0xE1#8
  | .s1E0OnMake b => b < 0x80#8
  | .s1E0OnBreak b => !(b < 0x80#8)
  | .s1E1On1d => true
  | .s1E1On9d => true
  | .s1E1OnOther b => b != 0x1D#8 && b != 0x9D#8
  | .s1E1x1DOn45 => true
  | .s1E1x1DOnOther b => b != 0x45#8
  | .s1E1x9DOnC5 => true
  | .s1E1x9DOnOther b => b != 0xC5#8
  | .s2InitOnE0 => true
  | .s2InitOnF0 => true
  | .s2InitOnE1 => true
  | .s2InitOnA83 => true
  | .s2InitOnA84 => true
  | .s2InitOnMake b => b < 0x80#8
  | .s2InitOnOther b =>
    !(b < 0x80#8) && b != 0xE0#8 && b != 0xF0#8 && b != 0xE1#8 && b != 0x83#8 && b != 0x84#8
  | .s2F0OnA83 => true
  | .s2F0OnA84 => true
  | .s2F0OnBreak b => b < 0x80#8
  | .s2F0OnOther b => !(b < 0x80#8) && b != 0x83#8 && b != 0x84#8
  | .s2E0OnF0 => true
  | .s2E0OnKey b => b < 0x80#8
  | .s2E0OnOther b => !(b < 0x80#8) && b != 0xF0#8
  | .s2E0F0OnKey b => b < 0x80#8
  | .s2E0F0OnOther b => !(b < 0x80#8)
  | .s2E1On14 => true
  | .s2E1OnF0 => true
  | .s2E1OnOther b => b != 0x14#8 && b != 0xF0#8
  | .s2E1x14On77 => true
  | .s2E1x14OnOther b => b != 0x77#8
  | .s2E1F0On14 => true
  | .s2E1F0OnOther b => b != 0x14#8
  | .s2E1F0x14OnF0 => true
  | .s2E1F0x14OnOther b => b != 0xF0#8
  | .s2E1F0x14F0On77 => true
  | .s2E1F0x14F0OnOther b => b != 0x77#8
  | .s3InitOnF0 => true
  | .s3InitOnRemap b => b != 0xF0#8 && tb.set3Remap.hasFrom b
  | .s3InitOnMake b => b < 0x80#8 && !tb.set3Remap.hasFrom b
  | .s3InitOnOther b => !(b < 0x80#8) && b != 0xF0#8 && !tb.set3Remap.hasFrom b
  | .s3F0OnRemap b => tb.set3Remap.hasFrom b
  | .s3F0OnBreak b => b < 0x80#8 && !tb.set3Remap.hasFrom b
  | .s3F0OnOther b => !(b < 0x80#8) && !tb.set3Remap.hasFrom b
  | .amInitOnKey b => BitVec.truncate 7 b ≤ tb.amigaMaxKey
  | .amInitOnReject b => tb.amigaMaxKey < BitVec.truncate 7 b
  | .m0InitOnBad0 b => b.getLsbD 0 == false
  | .m0InitOnP79 => true
  | .m0InitOnP71 => true
  | .m0InitOnKey b => b.getLsbD 0 == true && b != 0x79#8 && b != 0x71#8
  | .m0P79OnBad0 b => b.getLsbD 0 == false
  | .m0P79OnKey b => b.getLsbD 0 == true
  | .m0P71OnBad0 b => b.getLsbD 0 == false
  | .m0P71On79 => true
  | .m0P71OnOther b => b.getLsbD 0 == true && b != 0x79#8
  | .m0P71x79OnBad0 b => b.getLsbD 0 == false
  | .m0P71x79OnKey b => b.getLsbD 0 == true

end Sys2Proof
end

