-- ==== Sys2Proof/Decode.lean ====
section
/-! DEFINITION. The decoder: from what reaches the block (a frame word with the session's answer, a scan-code byte, a call)
to the operation it is, in the context that selects the class tables (R70 to R77, R80 to R86); and the encoder. -/

namespace Sys2Proof

/-! ## Fields (R71, R72, R75) -/

/-- `start`, bit 0 of an AT/PS2 word (R71). -/
def atStartBit (w : AtFrame) : Bool := w.getLsbD 0

/-- `data`, bits 8:1 of an AT/PS2 word (R71). -/
def atData (w : AtFrame) : Byte := w.extractLsb' 1 8

/-- `parity`, bit 9 of an AT/PS2 word (R71). -/
def atParityBit (w : AtFrame) : Bool := w.getLsbD 9

/-- `stop`, bit 10 of an AT/PS2 word (R71). -/
def atStopBit (w : AtFrame) : Bool := w.getLsbD 10

/-- `start`, bit 0 of an XT word (R72). -/
def xtStartBit (w : XtFrame) : Bool := w.getLsbD 0

/-- `data`, bits 8:1 of an XT word (R72). -/
def xtData (w : XtFrame) : Byte := w.extractLsb' 1 8

/-- `par(b)`: 1 exactly when the number of 1 bits is even, as the exclusive or of R102. -/
def par (b : Byte) : Bool :=
  !(b.getLsbD 0 ^^ b.getLsbD 1 ^^ b.getLsbD 2 ^^ b.getLsbD 3 ^^ b.getLsbD 4 ^^ b.getLsbD 5 ^^ b.getLsbD 6 ^^ b.getLsbD 7)

/-- The AT/PS2 frame part of a container: the bits above bit 10 are masked off, not checked (R73, U9). -/
def atOfRaw (r : RawWord) : AtFrame := r.extractLsb' 0 11

/-- The XT frame part of a container: the bits above bit 8 are masked off, not checked (R73, U9). -/
def xtOfRaw (r : RawWord) : XtFrame := r.extractLsb' 0 9

/-- Bit 7 of a scan-code byte is clear: `b < 0x80`, mask 0x80 match 0x00 (R80). -/
def isLow (b : Byte) : Bool := !b.getLsbD 7

/-- Bit 0 of a scan-code byte is set, as every M0110 byte must have it (R80). -/
def bit0Set (b : Byte) : Bool := b.getLsbD 0

/-- `b[6:0]`, the 7-bit key code (R75). -/
def key7 (b : Byte) : BitVec 7 := b.extractLsb' 0 7

/-- `b[6:1]`, the 6-bit M0110 key code (R75). -/
def key6 (b : Byte) : BitVec 6 := b.extractLsb' 1 6

/-- `remap(b)` of R200: the `to` value paired with `b`, where `b` is one of the `from` values. -/
def remap (r : Remap) (b : Byte) : Option Byte :=
  if b = r.first.1 then some r.first.2
  else if b = r.second.1 then some r.second.2
  else if b = r.third.1 then some r.third.2
  else none

/-! ## Encodings of the configuration points (R33) -/

/-- `PROTO` as encoded: 0 = `AT_PS2`, 1 = `XT`. -/
def protoCode : Proto → BitVec 1
  | .atPs2 => 0#1
  | .xt => 1#1

/-- The protocol a 1-bit code names. -/
def protoOfCode (c : BitVec 1) : Proto := if c = 0#1 then .atPs2 else .xt

/-- `CODESET` as encoded: 0 to 4. -/
def codeSetCode : CodeSet → BitVec 3
  | .set1 => 0#3
  | .set2 => 1#3
  | .set3 => 2#3
  | .amiga => 3#3
  | .m0110 => 4#3

/-- The code set a 3-bit code names; 5 to 7 name none (R33, U8). -/
def codeSetOfCode (c : BitVec 3) : Option CodeSet :=
  if c = 0#3 then some .set1
  else if c = 1#3 then some .set2
  else if c = 2#3 then some .set3
  else if c = 3#3 then some .amiga
  else if c = 4#3 then some .m0110
  else none

/-! ## What the decoder reads -/

/-- The ten operations that have no bit encoding, with their operands as given (R85); the operands of `SETUP` are the
encoded fields of R33. -/
inductive Call where
  | setup (proto : BitVec 1) (codeset : BitVec 3)
  | rxAt (w : AtFrame) (a : Action)
  | rxXt (w : XtFrame) (a : Action)
  | rbIsEmpty
  | rbIsFull
  | rbPut (b : Byte)
  | rbGet
  | rbReset
  | decFeed (b : Byte)
  | taskIter (now : Nat) (ready : Bool)
deriving DecidableEq, Repr

/-- What reaches the block: a frame word in its container with the answer the session gives if it validates (R31, R88
`WORD`), a scan-code byte (format `SC8`), or a call. -/
inductive Encoded where
  | frame (raw : RawWord) (answer : Action)
  | scan (b : Byte)
  | call (c : Call)
deriving DecidableEq, Repr

/-- What selects the class table a word or byte is read by: the protocol and its framing parameters, the tables, and the
decoder state with its code set (R76, R77, R86). -/
structure DecodeContext where
  proto : Proto
  framing : Framing
  tables : Tables
  dec : DecState
deriving DecidableEq, Repr

/-- Why nothing is decoded. -/
inductive DecodeError where
  /-- `SETUP` was given a code-set code that names no code set (R33, U8). -/
  | badCodeSet (c : BitVec 3)
deriving DecidableEq, Repr

/-! ## Classes -/

/-- The class of an AT/PS2 word, tested in the order start, stop, parity (R76). -/
def classifyAt (fr : Framing) (w : AtFrame) (a : Action) : Instr :=
  if atStartBit w != fr.atStart then .rxAtBadStart w
  else if atStopBit w != fr.atStop then .rxAtBadStop w
  else if atParityBit w != par (atData w) then .rxAtBadParity w
  else .rxAtOk w a

/-- The class of an XT word (R77). -/
def classifyXt (fr : Framing) (w : XtFrame) (a : Action) : Instr :=
  if xtStartBit w != fr.xtStart then .rxXtBadStart w else .rxXtOk w a

/-- The class of a byte in a Set 1 state (R150). -/
def classifySet1 (st : S1State) (b : Byte) : Instr :=
  match st with
  | .init =>
    if b = 0xE0#8 then .s1InitOnE0
    else if b = 0xE1#8 then .s1InitOnE1
    else if isLow b then .s1InitOnMake b
    else .s1InitOnBreak b
  | .e0 => if isLow b then .s1E0OnMake b else .s1E0OnBreak b
  | .e1 => if b = 0x1D#8 then .s1E1On1d else if b = 0x9D#8 then .s1E1On9d else .s1E1OnOther b
  | .e1x1D => if b = 0x45#8 then .s1E1x1DOn45 else .s1E1x1DOnOther b
  | .e1x9D => if b = 0xC5#8 then .s1E1x9DOnC5 else .s1E1x9DOnOther b

/-- The class of a byte in a Set 2 state (R170). -/
def classifySet2 (st : S2State) (b : Byte) : Instr :=
  match st with
  | .init =>
    if b = 0xE0#8 then .s2InitOnE0
    else if b = 0xF0#8 then .s2InitOnF0
    else if b = 0xE1#8 then .s2InitOnE1
    else if b = 0x83#8 then .s2InitOnA83
    else if b = 0x84#8 then .s2InitOnA84
    else if isLow b then .s2InitOnMake b
    else .s2InitOnOther b
  | .f0 =>
    if b = 0x83#8 then .s2F0OnA83
    else if b = 0x84#8 then .s2F0OnA84
    else if isLow b then .s2F0OnBreak b
    else .s2F0OnOther b
  | .e0 => if b = 0xF0#8 then .s2E0OnF0 else if isLow b then .s2E0OnKey b else .s2E0OnOther b
  | .e0F0 => if isLow b then .s2E0F0OnKey b else .s2E0F0OnOther b
  | .e1 => if b = 0x14#8 then .s2E1On14 else if b = 0xF0#8 then .s2E1OnF0 else .s2E1OnOther b
  | .e1x14 => if b = 0x77#8 then .s2E1x14On77 else .s2E1x14OnOther b
  | .e1F0 => if b = 0x14#8 then .s2E1F0On14 else .s2E1F0OnOther b
  | .e1F0x14 => if b = 0xF0#8 then .s2E1F0x14OnF0 else .s2E1F0x14OnOther b
  | .e1F0x14F0 => if b = 0x77#8 then .s2E1F0x14F0On77 else .s2E1F0x14F0OnOther b

/-- The class of a byte in a Set 3 state (R200). -/
def classifySet3 (tb : Tables) (st : S3State) (b : Byte) : Instr :=
  match st with
  | .init =>
    if b = 0xF0#8 then .s3InitOnF0
    else if (remap tb.set3Remap b).isSome then .s3InitOnRemap b
    else if isLow b then .s3InitOnMake b
    else .s3InitOnOther b
  | .f0 =>
    if (remap tb.set3Remap b).isSome then .s3F0OnRemap b
    else if isLow b then .s3F0OnBreak b
    else .s3F0OnOther b

/-- The class of a byte in the Amiga state (R210). -/
def classifyAmiga (tb : Tables) (b : Byte) : Instr :=
  if key7 b ≤ tb.amigaMaxKey then .amInitOnKey b else .amInitOnReject b

/-- The class of a byte in an M0110 state (R215). -/
def classifyM0110 (st : M0State) (b : Byte) : Instr :=
  match st with
  | .init =>
    if !bit0Set b then .m0InitOnBad0 b
    else if b = 0x79#8 then .m0InitOnP79
    else if b = 0x71#8 then .m0InitOnP71
    else .m0InitOnKey b
  | .p79 => if !bit0Set b then .m0P79OnBad0 b else .m0P79OnKey b
  | .p71 =>
    if !bit0Set b then .m0P71OnBad0 b
    else if b = 0x79#8 then .m0P71On79
    else .m0P71OnOther b
  | .p71x79 => if !bit0Set b then .m0P71x79OnBad0 b else .m0P71x79OnKey b

/-- The class of a scan-code byte in a decoder state (R86). -/
def classifyScan (tb : Tables) (d : DecState) (b : Byte) : Instr :=
  match d with
  | .set1 st => classifySet1 st b
  | .set2 st => classifySet2 st b
  | .set3 st => classifySet3 tb st b
  | .amiga _ => classifyAmiga tb b
  | .m0110 st => classifyM0110 st b

/-- The operation a call names (R85). -/
def decodeCall : Call → Except DecodeError Instr
  | .setup p c =>
    match codeSetOfCode c with
    | some cs => .ok (.setup (protoOfCode p) cs)
    | none => .error (.badCodeSet c)
  | .rxAt w a => .ok (.rxAt w a)
  | .rxXt w a => .ok (.rxXt w a)
  | .rbIsEmpty => .ok .rbIsEmpty
  | .rbIsFull => .ok .rbIsFull
  | .rbPut b => .ok (.rbPut b)
  | .rbGet => .ok .rbGet
  | .rbReset => .ok .rbReset
  | .decFeed b => .ok (.decFeed b)
  | .taskIter now ready => .ok (.taskIter now ready)

/-- The operation that what reaches the block is, in a context: total, every word and byte falls in one class (R76, R77,
R84, R86); only a code-set code of `SETUP` is rejected. -/
def decode (ctx : DecodeContext) : Encoded → Except DecodeError Instr
  | .frame raw a =>
    match ctx.proto with
    | .atPs2 => .ok (classifyAt ctx.framing (atOfRaw raw) a)
    | .xt => .ok (classifyXt ctx.framing (xtOfRaw raw) a)
  | .scan b => .ok (classifyScan ctx.tables ctx.dec b)
  | .call c => decodeCall c

/-! ## Encoder -/

/-- What reaches the block for an operation: its frame word right-justified in the container (R73), its byte (the `match`
column where one byte makes up the class), or the call. A class of a bad frame has no answer, since the session is not
asked (R105); its encoding carries `None`. -/
def encode : Instr → Encoded
  | .rxAtBadStart w => .frame (w.setWidth 16) .none
  | .rxAtBadStop w => .frame (w.setWidth 16) .none
  | .rxAtBadParity w => .frame (w.setWidth 16) .none
  | .rxAtOk w a => .frame (w.setWidth 16) a
  | .rxXtBadStart w => .frame (w.setWidth 16) .none
  | .rxXtOk w a => .frame (w.setWidth 16) a
  | .setup p c => .call (.setup (protoCode p) (codeSetCode c))
  | .rxAt w a => .call (.rxAt w a)
  | .rxXt w a => .call (.rxXt w a)
  | .rbIsEmpty => .call .rbIsEmpty
  | .rbIsFull => .call .rbIsFull
  | .rbPut b => .call (.rbPut b)
  | .rbGet => .call .rbGet
  | .rbReset => .call .rbReset
  | .decFeed b => .call (.decFeed b)
  | .taskIter now ready => .call (.taskIter now ready)
  | .s1InitOnE0 => .scan 0xE0#8
  | .s1InitOnE1 => .scan 0xE1#8
  | .s1InitOnMake b => .scan b
  | .s1InitOnBreak b => .scan b
  | .s1E0OnMake b => .scan b
  | .s1E0OnBreak b => .scan b
  | .s1E1On1d => .scan 0x1D#8
  | .s1E1On9d => .scan 0x9D#8
  | .s1E1OnOther b => .scan b
  | .s1E1x1DOn45 => .scan 0x45#8
  | .s1E1x1DOnOther b => .scan b
  | .s1E1x9DOnC5 => .scan 0xC5#8
  | .s1E1x9DOnOther b => .scan b
  | .s2InitOnE0 => .scan 0xE0#8
  | .s2InitOnF0 => .scan 0xF0#8
  | .s2InitOnE1 => .scan 0xE1#8
  | .s2InitOnA83 => .scan 0x83#8
  | .s2InitOnA84 => .scan 0x84#8
  | .s2InitOnMake b => .scan b
  | .s2InitOnOther b => .scan b
  | .s2F0OnA83 => .scan 0x83#8
  | .s2F0OnA84 => .scan 0x84#8
  | .s2F0OnBreak b => .scan b
  | .s2F0OnOther b => .scan b
  | .s2E0OnF0 => .scan 0xF0#8
  | .s2E0OnKey b => .scan b
  | .s2E0OnOther b => .scan b
  | .s2E0F0OnKey b => .scan b
  | .s2E0F0OnOther b => .scan b
  | .s2E1On14 => .scan 0x14#8
  | .s2E1OnF0 => .scan 0xF0#8
  | .s2E1OnOther b => .scan b
  | .s2E1x14On77 => .scan 0x77#8
  | .s2E1x14OnOther b => .scan b
  | .s2E1F0On14 => .scan 0x14#8
  | .s2E1F0OnOther b => .scan b
  | .s2E1F0x14OnF0 => .scan 0xF0#8
  | .s2E1F0x14OnOther b => .scan b
  | .s2E1F0x14F0On77 => .scan 0x77#8
  | .s2E1F0x14F0OnOther b => .scan b
  | .s3InitOnF0 => .scan 0xF0#8
  | .s3InitOnRemap b => .scan b
  | .s3InitOnMake b => .scan b
  | .s3InitOnOther b => .scan b
  | .s3F0OnRemap b => .scan b
  | .s3F0OnBreak b => .scan b
  | .s3F0OnOther b => .scan b
  | .amInitOnKey b => .scan b
  | .amInitOnReject b => .scan b
  | .m0InitOnBad0 b => .scan b
  | .m0InitOnP79 => .scan 0x79#8
  | .m0InitOnP71 => .scan 0x71#8
  | .m0InitOnKey b => .scan b
  | .m0P79OnBad0 b => .scan b
  | .m0P79OnKey b => .scan b
  | .m0P71OnBad0 b => .scan b
  | .m0P71On79 => .scan 0x79#8
  | .m0P71OnOther b => .scan b
  | .m0P71x79OnBad0 b => .scan b
  | .m0P71x79OnKey b => .scan b

/-- A context in which an operation's encoding is read as that operation, as far as the class tables go: the protocol of a
frame class, the code set and decoder state of a byte class (R76, R77, R86). A call is read the same in every context. -/
def selects (ctx : DecodeContext) : Instr → Bool
  | .rxAtBadStart _ => ctx.proto == .atPs2
  | .rxAtBadStop _ => ctx.proto == .atPs2
  | .rxAtBadParity _ => ctx.proto == .atPs2
  | .rxAtOk _ _ => ctx.proto == .atPs2
  | .rxXtBadStart _ => ctx.proto == .xt
  | .rxXtOk _ _ => ctx.proto == .xt
  | .setup _ _ => true
  | .rxAt _ _ => true
  | .rxXt _ _ => true
  | .rbIsEmpty => true
  | .rbIsFull => true
  | .rbPut _ => true
  | .rbGet => true
  | .rbReset => true
  | .decFeed _ => true
  | .taskIter _ _ => true
  | .s1InitOnE0 => ctx.dec == .set1 .init
  | .s1InitOnE1 => ctx.dec == .set1 .init
  | .s1InitOnMake _ => ctx.dec == .set1 .init
  | .s1InitOnBreak _ => ctx.dec == .set1 .init
  | .s1E0OnMake _ => ctx.dec == .set1 .e0
  | .s1E0OnBreak _ => ctx.dec == .set1 .e0
  | .s1E1On1d => ctx.dec == .set1 .e1
  | .s1E1On9d => ctx.dec == .set1 .e1
  | .s1E1OnOther _ => ctx.dec == .set1 .e1
  | .s1E1x1DOn45 => ctx.dec == .set1 .e1x1D
  | .s1E1x1DOnOther _ => ctx.dec == .set1 .e1x1D
  | .s1E1x9DOnC5 => ctx.dec == .set1 .e1x9D
  | .s1E1x9DOnOther _ => ctx.dec == .set1 .e1x9D
  | .s2InitOnE0 => ctx.dec == .set2 .init
  | .s2InitOnF0 => ctx.dec == .set2 .init
  | .s2InitOnE1 => ctx.dec == .set2 .init
  | .s2InitOnA83 => ctx.dec == .set2 .init
  | .s2InitOnA84 => ctx.dec == .set2 .init
  | .s2InitOnMake _ => ctx.dec == .set2 .init
  | .s2InitOnOther _ => ctx.dec == .set2 .init
  | .s2F0OnA83 => ctx.dec == .set2 .f0
  | .s2F0OnA84 => ctx.dec == .set2 .f0
  | .s2F0OnBreak _ => ctx.dec == .set2 .f0
  | .s2F0OnOther _ => ctx.dec == .set2 .f0
  | .s2E0OnF0 => ctx.dec == .set2 .e0
  | .s2E0OnKey _ => ctx.dec == .set2 .e0
  | .s2E0OnOther _ => ctx.dec == .set2 .e0
  | .s2E0F0OnKey _ => ctx.dec == .set2 .e0F0
  | .s2E0F0OnOther _ => ctx.dec == .set2 .e0F0
  | .s2E1On14 => ctx.dec == .set2 .e1
  | .s2E1OnF0 => ctx.dec == .set2 .e1
  | .s2E1OnOther _ => ctx.dec == .set2 .e1
  | .s2E1x14On77 => ctx.dec == .set2 .e1x14
  | .s2E1x14OnOther _ => ctx.dec == .set2 .e1x14
  | .s2E1F0On14 => ctx.dec == .set2 .e1F0
  | .s2E1F0OnOther _ => ctx.dec == .set2 .e1F0
  | .s2E1F0x14OnF0 => ctx.dec == .set2 .e1F0x14
  | .s2E1F0x14OnOther _ => ctx.dec == .set2 .e1F0x14
  | .s2E1F0x14F0On77 => ctx.dec == .set2 .e1F0x14F0
  | .s2E1F0x14F0OnOther _ => ctx.dec == .set2 .e1F0x14F0
  | .s3InitOnF0 => ctx.dec == .set3 .init
  | .s3InitOnRemap _ => ctx.dec == .set3 .init
  | .s3InitOnMake _ => ctx.dec == .set3 .init
  | .s3InitOnOther _ => ctx.dec == .set3 .init
  | .s3F0OnRemap _ => ctx.dec == .set3 .f0
  | .s3F0OnBreak _ => ctx.dec == .set3 .f0
  | .s3F0OnOther _ => ctx.dec == .set3 .f0
  | .amInitOnKey _ => ctx.dec == .amiga .init
  | .amInitOnReject _ => ctx.dec == .amiga .init
  | .m0InitOnBad0 _ => ctx.dec == .m0110 .init
  | .m0InitOnP79 => ctx.dec == .m0110 .init
  | .m0InitOnP71 => ctx.dec == .m0110 .init
  | .m0InitOnKey _ => ctx.dec == .m0110 .init
  | .m0P79OnBad0 _ => ctx.dec == .m0110 .p79
  | .m0P79OnKey _ => ctx.dec == .m0110 .p79
  | .m0P71OnBad0 _ => ctx.dec == .m0110 .p71
  | .m0P71On79 => ctx.dec == .m0110 .p71
  | .m0P71OnOther _ => ctx.dec == .m0110 .p71
  | .m0P71x79OnBad0 _ => ctx.dec == .m0110 .p71x79
  | .m0P71x79OnKey _ => ctx.dec == .m0110 .p71x79

/-! ## The words of spec/opcode_table.json -/

/-- The decoder state in which a byte of the opcode table is read where the table's word alone is given: the state of the
first row, in table order, whose eight bits are all fixed at that byte; for any other byte Set 1's `INIT`, the state of the
first byte row. DESIGN CHOICE (log entry 16): a byte's class depends on a state that the word does not name (R86). -/
def tableDecState (b : Byte) : DecState :=
  if b = 0xE0#8 ∨ b = 0xE1#8 then .set1 .init
  else if b = 0x1D#8 ∨ b = 0x9D#8 then .set1 .e1
  else if b = 0x45#8 then .set1 .e1x1D
  else if b = 0xC5#8 then .set1 .e1x9D
  else if b = 0xF0#8 ∨ b = 0x83#8 ∨ b = 0x84#8 then .set2 .init
  else if b = 0x14#8 then .set2 .e1
  else if b = 0x77#8 then .set2 .e1x14
  else if b = 0x79#8 ∨ b = 0x71#8 then .m0110 .init
  else .set1 .init

/-- The protocol a frame word of the opcode table is read by: XT for a 9-bit row, AT/PS2 for a wider one. -/
def tableProto (nbits : Nat) : Proto := if nbits = 9 then .xt else .atPs2

/-- What reaches the block for a table word of `nbits` bits: no bits are a call, which has no encoding (R85); up to 8 bits
are a scan-code byte; more are a frame word, answered `EnqueueForDecoding` as R88 does where no answer is given. -/
def tableEncoded (nbits w : Nat) : Option Encoded :=
  if nbits = 0 then none
  else if nbits ≤ 8 then some (.scan (BitVec.ofNat 8 w))
  else some (.frame (BitVec.ofNat 16 w) .enqueueForDecoding)

/-- The context in which a table word is read (log entry 16): the framing defaults and the machine's tables. -/
def tableContext (nbits w : Nat) : DecodeContext :=
  { proto := tableProto nbits, framing := Config.framing, tables := Config.tables,
    dec := tableDecState (BitVec.ofNat 8 w) }

/-- The operation the decoder reads from a word of the opcode table; none for a call, which has no bits, and where the
decoder rejects. -/
def decodeTableWord (nbits w : Nat) : Option Instr :=
  match tableEncoded nbits w with
  | none => none
  | some e =>
    match decode (tableContext nbits w) e with
    | .ok i => some i
    | .error _ => none

end Sys2Proof
end

