-- ==== Sys2Proof/Machine/State.lean ====
section
/-! DEFINITION. The state of one KBD-FE instance as plain data (R20), its output streams (R30), the inputs a step reads
(R31), the reasons a step is refused, and the state after reset. -/

namespace Sys2Proof.Machine

/-- The kinds of `FrameError` (R270). -/
inductive FrameKind where
  | badStart
  | badParity
  | badStop
deriving DecidableEq, Repr

/-- The frame word a diagnostic carries (R270): of an AT/PS2 or of an XT frame. -/
inductive FrameWord where
  | at11 (w : AtFrame)
  | xt9 (w : XtFrame)
deriving DecidableEq, Repr

/-- An error event with the information it records (R270, R272). -/
inductive Diag where
  /-- `FrameError{kind}` with the word -/
  | frameError (kind : FrameKind) (w : FrameWord)
  /-- `SequenceError{UnexpectedByte}` with the decoder state before the step and the byte -/
  | sequenceError (st : DecState) (b : Byte)
  /-- `HandshakeTimeout`: raised by the session only (R277), never by the block -/
  | handshakeTimeout
  /-- `BufferOverflow` with the dropped byte -/
  | bufferOverflow (b : Byte)
deriving DecidableEq, Repr

/-- An element of `rcvctl` (R30). -/
inductive RcvToken where
  | restart
deriving DecidableEq, Repr

/-- An element of `sesctl` (R30). -/
inductive SesToken where
  | reset
deriving DecidableEq, Repr

/-- A call that the block makes to an external agent and that is no stream element (R12 `ask`; R251, R252). -/
inductive Ask where
  /-- `SES.on_byte(b)` -/
  | onByte (b : Byte)
  /-- `HID.ready()` -/
  | hidReady
  /-- `SES.on_tick(now)` -/
  | onTick (now : Nat)
deriving DecidableEq, Repr

/-- What an operation returned (R85, column *result*). -/
inductive CallResult where
  /-- nothing -/
  | none
  /-- of `RB.IS_EMPTY` and `RB.IS_FULL` -/
  | flag (v : Bool)
  /-- of `RB.PUT`: accepted or rejected -/
  | put (accepted : Bool)
  /-- of `RB.GET`: the byte and `valid` -/
  | got (v : Byte) (valid : Bool)
  /-- of `DEC.FEED`: the event, if any -/
  | fed (e : Option KeyEvent)
deriving DecidableEq, Repr

/-- The ring buffer (R20 to R23). -/
structure Ring where
  /-- `rb.buf`: the slots written so far, by address; a slot that is not listed holds no value the spec names (R23) -/
  buf : List Host.Cell
  /-- `rb.head`, the slot the next put writes -/
  head : Index
  /-- `rb.tail`, the slot the next get reads -/
  tail : Index
deriving DecidableEq, Repr

/-- The output streams (R30), each in order of emission, and the calls made to external agents. -/
structure Outputs where
  tx : List TxFrame
  rcvctl : List RcvToken
  sesctl : List SesToken
  hid : List KeyEvent
  diag : List Diag
  asks : List Ask
deriving DecidableEq, Repr

/-- A word waiting in the receiver's FIFO (R36, R231), with the answer the session gives if the word validates (R31). -/
structure Frame where
  raw : RawWord
  answer : Action
deriving DecidableEq, Repr

/-- What the environment or the scheduler does next (R9, R10, R26, R88). -/
inductive Event where
  /-- an agent starts one of the ten calls -/
  | started (agent : Agent) (c : Call)
  /-- the consumer feeds a scan-code byte to the decoder -/
  | scan (b : Byte)
  /-- the receiver's interrupt: the producer starts on the oldest waiting word, if it may (R279, R280) -/
  | interrupt
  /-- a word arrives in the receiver's FIFO and waits there (R36, R250) -/
  | deliver (f : Frame)
  /-- the environment writes `irq_en` (R33, D30) -/
  | setIrq (on : Bool)
deriving DecidableEq, Repr

/-- The inputs (R31), as data the step reads: they are not the block's state. -/
structure Inputs where
  /-- what happens next, first to last -/
  agenda : List Event
  /-- the words waiting in the receiver's FIFO, oldest first -/
  rcv : List Frame
  /-- for each coming boundary between two micro-steps of the consumer, how many words the producer takes there (R10) -/
  preempts : List Nat
deriving DecidableEq, Repr

/-- The whole state of one instance. -/
structure State where
  /-- `PROTO` (R8, R33) -/
  proto : Proto
  /-- the framing parameters of R7 -/
  framing : Framing
  /-- the tables of R6 -/
  tables : Tables
  /-- `SETUP` has run (R302); the model's own field -/
  setupDone : Bool
  /-- the ring buffer -/
  rb : Ring
  /-- `dec.state`, its constructor being `CODESET` (R24, R25, R33) -/
  dec : DecState
  /-- `irq_en` (R33, R280) -/
  irqEn : Bool
  /-- the output streams -/
  out : Outputs
  /-- the inputs -/
  env : Inputs
  /-- what the last operation returned; the model's own field -/
  result : CallResult
  /-- how many free bytes have been used; the model's own field -/
  freeCount : Nat
deriving DecidableEq, Repr

/-- `CODESET` (R33). -/
def State.codeSet (s : State) : CodeSet := s.dec.codeSet

/-- The context the decoder reads a word or a byte in. -/
def State.context (s : State) : DecodeContext :=
  { proto := s.proto, framing := s.framing, tables := s.tables, dec := s.dec }

/-- Why the machine stops. The spec has no such reason: no error stops the block (R278), every error is an event with a
local reaction (R271), and there is no access, alignment or arithmetic fault (R52, R270). -/
inductive Fault where
deriving DecidableEq, Repr

/-- Why an operation has no meaning in a state. Each is a premise the spec itself states. All are safe: the model stops
where the spec gives no effect. -/
inductive Refusal where
  /-- raised by `exec` for an operation that is not modelled yet; no operation is (safe) -/
  | notModelled (mnemonic : String)
  /-- raised by every operation but `SETUP` before the first `SETUP` (R302, U5) -/
  | beforeSetup
  /-- raised by `RB.RESET` while the producer can run (R126, U4) -/
  | producerNotQuiescent
  /-- raised by `RX.AT` and its classes while `PROTO = XT`, and by `RX.XT` and its classes while `PROTO = AT_PS2` (R105,
  R108) -/
  | wrongProtocol
  /-- raised by a frame or byte class in which the word, or the byte in the decoder's state, does not fall (R76, R77, R86) -/
  | classNotSelected
  /-- raised by the step for an operation started from the context that may not run it (R285, U6) -/
  | wrongContext
  /-- raised by the step for a call of the producer started while `irq_en = 0` (R33, R280) -/
  | producerMasked
  /-- raised by the step for `SETUP` with a code-set code of 5 to 7 (R33, R300, U8) -/
  | badCodeSet (c : BitVec 3)
deriving DecidableEq, Repr

/-- The outcome of an operation or a step. -/
abbrev Result := Host.Outcome State Fault Refusal

/-- The machine right after reset, that is, after `SETUP` (R300, R301): indices 0, no slot written, decoder in `INIT`,
interrupt enabled. `SETUP`'s operands are not given by the spec: DESIGN CHOICE `AT_PS2` and `SET2` (log entry 1). Streams
and inputs are empty. -/
def State.reset : State :=
  { proto := .atPs2
    framing := Config.framing
    tables := Config.tables
    setupDone := true
    rb := { buf := [], head := 0#5, tail := 0#5 }
    dec := .set2 .init
    irqEn := true
    out := { tx := [], rcvctl := [], sesctl := [], hid := [], diag := [], asks := [] }
    env := { agenda := [], rcv := [], preempts := [] }
    result := .none
    freeCount := 0 }

end Sys2Proof.Machine
end

