-- ==== Sys2Proof/Machine/Operands.lean ====
section
/-! DEFINITION. Operand assembly of the machine (R75): what the decoder does not already cut out. -/

namespace Sys2Proof.Machine

/-- The next index, `(i + 1) mod 32` (R21, R75). -/
def nextIndex (i : Index) : Index := i + 1#5

/-- The transmit word `{par(c), c}` (R78). -/
def txWord (c : Byte) : TxFrame := BitVec.ofBool (par c) ++ c

/-- `{make, code}` as a 9-bit number, for tables and vectors only (R79). -/
def ke9 (e : KeyEvent) : BitVec 9 := BitVec.ofBool e.make ++ e.code

/-- The frame word of a good AT/PS2 frame for a byte: `{stop, par(b), b, start}` (R88 `AtWord`). -/
def atWord (fr : Framing) (b : Byte) : AtFrame :=
  BitVec.ofBool fr.atStop ++ BitVec.ofBool (par b) ++ b ++ BitVec.ofBool fr.atStart

/-- The frame word of a good XT frame for a byte: `{b, start}` (R88 `XtWord`). -/
def xtWord (fr : Framing) (b : Byte) : XtFrame := b ++ BitVec.ofBool fr.xtStart

/-- Set 1 key code `b & 0x7F` (R75), as a byte. -/
def set1Code (b : Byte) : Byte := b &&& 0x7F#8

/-- Make/break of the sets that carry it in bit 7: 0 = make (R80, R211, R215). -/
def makeOfBit7 (b : Byte) : Bool := !b.getLsbD 7

/-- Amiga key code `b[6:0]`, widened to a byte (R75, R211). -/
def amigaCode (b : Byte) : Byte := (key7 b).setWidth 8

/-- M0110 key code `b[6:1]`, widened to a byte (R75, R215). -/
def m0110Code (b : Byte) : Byte := (key6 b).setWidth 8

/-- The event of a table entry: none where the entry is 0 (R145). -/
def eventOfEntry (t : Byte) (make : Bool) : Option KeyEvent :=
  if t = 0#8 then none else some { code := t, make := make }

/-- The code of an error event (R270). -/
def diagCode : Diag → Nat
  | .frameError .badStart _ => 0
  | .frameError .badParity _ => 1
  | .frameError .badStop _ => 2
  | .sequenceError _ _ => 3
  | .handshakeTimeout => 4
  | .bufferOverflow _ => 5

end Sys2Proof.Machine
end

