-- ==== Sys2Proof/Machine/Flags.lean ====
section
/-! DEFINITION. The derived conditions of the ring (R27, R33, R123): computed from the indices whenever asked, never
stored. The block has no other flag (R29). -/

namespace Sys2Proof.Machine

/-- `rb_empty` (R27). -/
def rbEmpty (s : State) : Bool := s.rb.head == s.rb.tail

/-- `rb_full` (R27). -/
def rbFull (s : State) : Bool := nextIndex s.rb.head == s.rb.tail

/-- `rb_count`, 0 to 31 (R123). -/
def rbCount (s : State) : Nat := (s.rb.head - s.rb.tail).toNat

/-- `STATUS`: bit 0 is `rb_empty`, bit 1 is `rb_full` (R33). -/
def status (s : State) : BitVec 2 := BitVec.ofBool (rbFull s) ++ BitVec.ofBool (rbEmpty s)

end Sys2Proof.Machine
end

