-- ==== Sys2Proof/Machine/Ops.lean ====
section
/-! DEFINITION. The operations every meaning is made of: the ring storage as memory, named updates of the state, emitting
to a stream, raising an error event, and the ring's put and reset. -/

namespace Sys2Proof.Machine

/-! ## Memory: the ring storage (R50 to R52) -/

/-- The value listed for an address; an address that is not listed holds NO value (R23, log entry 5). -/
def Memory.read (m : List Host.Cell) (a : Nat) : Option Byte :=
  match m with
  | [] => none
  | (k, v) :: rest => if k = a then some v else Memory.read rest a

/-- Writes one byte, keeping the addresses strictly rising. -/
def Memory.write (m : List Host.Cell) (a : Nat) (v : Byte) : List Host.Cell :=
  match m with
  | [] => [(a, v)]
  | (k, w) :: rest =>
    if a < k then (a, v) :: (k, w) :: rest
    else if a = k then (a, v) :: rest
    else (k, w) :: Memory.write rest a v

/-- The addresses rise strictly from `lo` on and all exist: `RB` has the addresses 0 to 31 (R51). -/
def Memory.wfFrom (lo : Nat) : List Host.Cell → Bool
  | [] => true
  | (k, _) :: rest => decide (lo ≤ k) && decide (k < 32) && Memory.wfFrom (k + 1) rest

/-- The canonical form. Since an unlisted address holds no value, no entry can equal what one reads as. -/
def Memory.wf (m : List Host.Cell) : Bool := Memory.wfFrom 0 m

/-! ## Named updates -/

/-- Writes a slot (`MemWrite`, R12). -/
def State.putSlot (s : State) (a : Index) (v : Byte) : State :=
  { s with rb := { s.rb with buf := Memory.write s.rb.buf a.toNat v } }

/-- `rb.head <- i` -/
def State.setHead (s : State) (i : Index) : State := { s with rb := { s.rb with head := i } }

/-- `rb.tail <- i` -/
def State.setTail (s : State) (i : Index) : State := { s with rb := { s.rb with tail := i } }

/-- `dec.state <- d` -/
def State.setDec (s : State) (d : DecState) : State := { s with dec := d }

/-- `PROTO <- p` -/
def State.setProto (s : State) (p : Proto) : State := { s with proto := p }

/-- `irq_en <- v` -/
def State.setIrqEn (s : State) (v : Bool) : State := { s with irqEn := v }

/-- Marks that `SETUP` has run (R302). -/
def State.markSetup (s : State) : State := { s with setupDone := true }

/-- `emit tx(w)` -/
def State.emitTx (s : State) (w : TxFrame) : State := { s with out := { s.out with tx := s.out.tx ++ [w] } }

/-- `emit rcvctl(t)` -/
def State.emitRcvctl (s : State) (t : RcvToken) : State :=
  { s with out := { s.out with rcvctl := s.out.rcvctl ++ [t] } }

/-- `emit sesctl(t)` -/
def State.emitSesctl (s : State) (t : SesToken) : State :=
  { s with out := { s.out with sesctl := s.out.sesctl ++ [t] } }

/-- `emit hid(e)` -/
def State.emitHid (s : State) (e : KeyEvent) : State := { s with out := { s.out with hid := s.out.hid ++ [e] } }

/-- `emit diag(d)` -/
def State.emitDiag (s : State) (d : Diag) : State := { s with out := { s.out with diag := s.out.diag ++ [d] } }

/-- Records a call to an external agent (R12 `ask`). -/
def State.ask (s : State) (a : Ask) : State := { s with out := { s.out with asks := s.out.asks ++ [a] } }

/-- Sets what the operation returns. -/
def State.answer (s : State) (r : CallResult) : State := { s with result := r }

/-- Uses up one free byte. -/
def State.useFree (s : State) : State := { s with freeCount := s.freeCount + 1 }

/-- Replaces the agenda. -/
def State.setAgenda (s : State) (l : List Event) : State := { s with env := { s.env with agenda := l } }

/-- Replaces the words waiting in the receiver. -/
def State.setRcv (s : State) (l : List Frame) : State := { s with env := { s.env with rcv := l } }

/-- Replaces the schedule of preemptions. -/
def State.setPreempts (s : State) (l : List Nat) : State := { s with env := { s.env with preempts := l } }

/-! ## Sequencing -/

/-- Runs the second part of an operation on what the first gives, unless the first stops. -/
def andThen {α β : Type} (o : Host.Outcome α Fault Refusal) (k : α → Host.Outcome β Fault Refusal) :
    Host.Outcome β Fault Refusal :=
  match o with
  | .next a => k a
  | .fault r => .fault r
  | .refused r => .refused r

/-- No operation but `SETUP` has a meaning before the first `SETUP` (R302, U5). -/
def afterSetup (s : State) (k : Result) : Result := if s.setupDone then k else .refused .beforeSetup

/-- `barrier` (R57): orders the accesses before it against those after it. The model takes the micro-steps in program
order, as R58 allows, so there is nothing for it to change (log entry 17). -/
def barrier (s : State) : State := s

/-! ## Error events (R270 to R277) -/

/-- What an error event does beyond its diagnostic (R273 to R277). -/
def reaction (e : Diag) (s : State) : State :=
  match e with
  | .frameError .badStart _ => (s.emitSesctl .reset).emitRcvctl .restart
  | .frameError .badStop _ => (s.emitSesctl .reset).emitRcvctl .restart
  | .frameError .badParity _ => s.emitTx (txWord s.framing.cmdResend)
  | .sequenceError _ _ => s.setDec (DecState.initOf s.dec.codeSet)
  | .handshakeTimeout => s
  | .bufferOverflow _ => s

/-- `raise E(info)` (R271): append to `diag`, then react. It saves nothing and transfers control nowhere, so there is no
return from it (R271, R282): the raising operation goes on as its rule says. -/
def raise (e : Diag) (s : State) : State := reaction e (s.emitDiag e)

/-! ## The ring (R121 to R126) -/

/-- A byte the spec leaves open (U2, U3), and the state in which it is used up. -/
def takeFree (s : State) : Byte × State := (Config.freeByte s.freeCount, s.useFree)

/-- `RB.PUT(b)` (R124) and whether the byte is accepted: the fullness test, the slot write, the index publish, with the
barriers of R57. -/
def ringPut (b : Byte) (s : State) : State × Bool :=
  if rbFull s then (raise (.bufferOverflow b) s, false)
  else
    let written := barrier (s.putSlot s.rb.head b)
    (barrier (written.setHead (nextIndex written.rb.head)), true)

/-- Micro-step C1 of `RB.GET` (R125): reads the slot at `rb.tail`. A slot that holds no value gives a free byte (U3). -/
def readSlot (s : State) : Byte × State :=
  match Memory.read s.rb.buf s.rb.tail.toNat with
  | some v => (v, s)
  | none => takeFree s

/-- Micro-step C2 of `RB.GET` (R125): releases the slot. -/
def releaseSlot (s : State) : State := s.setTail (nextIndex s.rb.tail)

/-- The producer cannot run: it is masked, or no word waits (R126, U4). -/
def quiescent (s : State) : Bool := !s.irqEn || s.env.rcv.isEmpty

/-- The index writes of `RB.RESET` (R126); the slots are not written (R23). -/
def clearIndices (s : State) : State := (s.setHead 0#5).setTail 0#5

end Sys2Proof.Machine
end

