-- ==== Sys2Proof/Machine/FrameCodec.lean ====
section
/-! DEFINITION. The FrameCodec and the producer's operations (40_frame_codec.md): `RX.AT`, `RX.XT` and their frame
classes. -/

namespace Sys2Proof.Machine

/-- `DecodeAT` (R104): start, then stop, then parity. -/
def decodeAt (fr : Framing) (w : AtFrame) : Except FrameKind Byte :=
  if atStartBit w != fr.atStart then .error .badStart
  else if atStopBit w != fr.atStop then .error .badStop
  else if atParityBit w != par (atData w) then .error .badParity
  else .ok (atData w)

/-- `DecodeXT` (R107). -/
def decodeXt (fr : Framing) (w : XtFrame) : Except FrameKind Byte :=
  if xtStartBit w != fr.xtStart then .error .badStart else .ok (xtData w)

/-- What a validated AT/PS2 byte leads to (R105, R232): `SES.on_byte` is asked and its answer routes the byte. -/
def routeAt (b : Byte) (a : Action) (s : State) : State :=
  let asked := s.ask (.onByte b)
  match a with
  | .sendCommand c => asked.emitTx (txWord c)
  | .enqueueForDecoding => (ringPut b asked).1
  | .none => asked

/-- What a validated XT byte leads to (R108): as for AT/PS2, but nothing can be sent. A session that answers `SendCommand`
has broken its contract; DESIGN CHOICE among those U7 gives: the answer counts as `None` (log entry 12). -/
def routeXt (b : Byte) (a : Action) (s : State) : State :=
  let asked := s.ask (.onByte b)
  match a with
  | .sendCommand _ => asked
  | .enqueueForDecoding => (ringPut b asked).1
  | .none => asked

/-- The body of `RX.AT` (R105). -/
def rxAtBody (w : AtFrame) (a : Action) (s : State) : State :=
  match decodeAt s.framing w with
  | .ok b => routeAt b a s
  | .error k => raise (.frameError k (.at11 w)) s

/-- The body of `RX.XT` (R108). -/
def rxXtBody (w : XtFrame) (a : Action) (s : State) : State :=
  match decodeXt s.framing w with
  | .ok b => routeXt b a s
  | .error k => raise (.frameError k (.xt9 w)) s

/-- One operation of the producer on a word it has taken: `RX.AT` or `RX.XT` by `PROTO` (R231, R281). -/
def receive (f : Frame) (s : State) : State :=
  match s.proto with
  | .atPs2 => rxAtBody (atOfRaw f.raw) f.answer s
  | .xt => rxXtBody (xtOfRaw f.raw) f.answer s

/-- An operation of the producer that is defined for one protocol. -/
def underProto (p : Proto) (s : State) (k : Result) : Result :=
  afterSetup s (if s.proto = p then k else .refused .wrongProtocol)

/-- An operation that is one frame class: it applies to the words of that class only (R76, R77). -/
def frameClass (p : Proto) (inClass : Bool) (s : State) (k : Result) : Result :=
  underProto p s (if inClass then k else .refused .classNotSelected)

/-- An operation that returns nothing has ended. -/
def ended (s : State) : Result := .next (s.answer .none)

/-- `RX.AT` (R105). -/
def execRxAt (w : AtFrame) (a : Action) (s : State) : Result :=
  underProto .atPs2 s (ended (rxAtBody w a s))

/-- `RX.XT` (R108). -/
def execRxXt (w : XtFrame) (a : Action) (s : State) : Result :=
  underProto .xt s (ended (rxXtBody w a s))

/-- `RX.AT.BADSTART` (R76, R104, R273). -/
def execRxAtBadStart (w : AtFrame) (s : State) : Result :=
  frameClass .atPs2 (atStartBit w != s.framing.atStart) s (ended (raise (.frameError .badStart (.at11 w)) s))

/-- `RX.AT.BADSTOP` (R76, R104, R273). -/
def execRxAtBadStop (w : AtFrame) (s : State) : Result :=
  frameClass .atPs2 (atStartBit w == s.framing.atStart && atStopBit w != s.framing.atStop) s
    (ended (raise (.frameError .badStop (.at11 w)) s))

/-- `RX.AT.BADPARITY` (R76, R104, R274). -/
def execRxAtBadParity (w : AtFrame) (s : State) : Result :=
  frameClass .atPs2
    (atStartBit w == s.framing.atStart && atStopBit w == s.framing.atStop && atParityBit w != par (atData w)) s
    (ended (raise (.frameError .badParity (.at11 w)) s))

/-- `RX.AT.OK` (R76, R104, R105). -/
def execRxAtOk (w : AtFrame) (a : Action) (s : State) : Result :=
  frameClass .atPs2
    (atStartBit w == s.framing.atStart && atStopBit w == s.framing.atStop && atParityBit w == par (atData w)) s
    (ended (routeAt (atData w) a s))

/-- `RX.XT.BADSTART` (R77, R107, R273). -/
def execRxXtBadStart (w : XtFrame) (s : State) : Result :=
  frameClass .xt (xtStartBit w != s.framing.xtStart) s (ended (raise (.frameError .badStart (.xt9 w)) s))

/-- `RX.XT.OK` (R77, R107, R108). -/
def execRxXtOk (w : XtFrame) (a : Action) (s : State) : Result :=
  frameClass .xt (xtStartBit w == s.framing.xtStart) s (ended (routeXt (xtData w) a s))

end Sys2Proof.Machine
end

