-- ==== Sys2Proof/Machine/RingBuffer.lean ====
section
/-! DEFINITION. The producer between two micro-steps of the consumer (R10), and the ring-buffer operations
(41_ring_buffer.md). -/

namespace Sys2Proof.Machine

/-- The producer takes up to `n` waiting words, oldest first, each a whole operation, while `irq_en` is 1 (R10, R231,
R280). -/
def runProducer : Nat → State → State
  | 0, s => s
  | n + 1, s =>
    match s.irqEn, s.env.rcv with
    | true, f :: rest => runProducer n (receive f (s.setRcv rest))
    | _, _ => s

/-- A boundary between two micro-steps of the consumer: the producer may run here (R10). How many words it takes is the
next entry of the schedule; none where the schedule is at its end (log entry 8). -/
def preempt (s : State) : State :=
  match s.env.preempts with
  | [] => s
  | n :: rest => runProducer n (s.setPreempts rest)

/-- `RB.GET()` (R125): the emptiness test, the slot read C1 and the index release C2, with the barriers of R57 and a
boundary between each two; the state after it, the byte and `valid`. -/
def ringGet (s : State) : State × Byte × Bool :=
  if rbEmpty s then ((takeFree s).2, (takeFree s).1, false)
  else
    let tested := preempt (barrier s)
    let taken := preempt (barrier (readSlot tested).2)
    (releaseSlot taken, (readSlot tested).1, true)

/-- `RB.IS_EMPTY` (R121). -/
def execRbIsEmpty (s : State) : Result := afterSetup s (.next (s.answer (.flag (rbEmpty s))))

/-- `RB.IS_FULL` (R122). -/
def execRbIsFull (s : State) : Result := afterSetup s (.next (s.answer (.flag (rbFull s))))

/-- `RB.PUT` (R124). -/
def execRbPut (b : Byte) (s : State) : Result :=
  afterSetup s (.next ((ringPut b s).1.answer (.put (ringPut b s).2)))

/-- `RB.GET` (R125). -/
def execRbGet (s : State) : Result :=
  afterSetup s (.next ((ringGet s).1.answer (.got (ringGet s).2.1 (ringGet s).2.2)))

/-- `RB.RESET` (R126): refused unless the producer is quiescent (U4). -/
def execRbReset (s : State) : Result :=
  afterSetup s (if quiescent s then ended (clearIndices s) else .refused .producerNotQuiescent)

end Sys2Proof.Machine
end

