-- ==== Sys2Proof/Machine/DecoderCommon.lean ====
section
/-! DEFINITION. The contract every code set's decoder shares (42_decoder_common.md): a step is a transition to a next state
with at most one event and at most one diagnostic. -/

namespace Sys2Proof.Machine

/-- The triple of R140: next state, event, and whether the byte raises `SequenceError`. -/
structure Transition where
  next : DecState
  event : Option KeyEvent
  error : Bool
deriving DecidableEq, Repr

/-- `(next, None, None)`: a prefix (R81). -/
def toState (d : DecState) : Transition := { next := d, event := none, error := false }

/-- `(INIT, event, None)`: a completed sequence, which may have no event (R143, R145). -/
def complete (c : CodeSet) (e : Option KeyEvent) : Transition :=
  { next := DecState.initOf c, event := e, error := false }

/-- `(INIT, Some(KeyEvent), None)`. -/
def emitKey (c : CodeSet) (code : Byte) (make : Bool) : Transition :=
  complete c (some { code := code, make := make })

/-- `(INIT, None, Some(SequenceError))` (R142, R146). -/
def unexpected (c : CodeSet) : Transition := { next := DecState.initOf c, event := none, error := true }

/-- Applies a transition (R140): the next state is written, a diagnostic raised if there is one, the event returned. The
diagnostic names the state before the step (R270). -/
def applyTransition (t : Transition) (b : Byte) (s : State) : State :=
  if t.error then raise (.sequenceError s.dec b) (s.setDec t.next) else s.setDec t.next

/-- A step of the decoder as a call that returns its event. -/
def fedBy (t : Transition) (b : Byte) (s : State) : Result :=
  .next ((applyTransition t b s).answer (.fed t.event))

/-- An operation that is one byte class of a decoder state: it applies only in that state and to the bytes of that class
(R86). -/
def byteClass (st : DecState) (inClass : Bool) (t : Transition) (b : Byte) (s : State) : Result :=
  afterSetup s (if s.dec = st && inClass then fedBy t b s else .refused .classNotSelected)

end Sys2Proof.Machine
end

