-- ==== Sys2Proof/Machine/DecoderAmiga.lean ====
section
/-! DEFINITION. The ScancodeDecoder of Amiga (46_decoder_amiga_m0110.md section 1): its transition table and its byte classes. -/

namespace Sys2Proof.Machine

/-- The transition table R210, its classes tested top to bottom. -/
def stepAmiga (tb : Tables) (st : AmigaState) (b : Byte) : Transition :=
  match st with
  | .init =>
    if key7 b ≤ tb.amigaMaxKey then emitKey .amiga (amigaCode b) (makeOfBit7 b)
    else unexpected .amiga

/-- `DEC.AM.INIT.KEY` (R211). -/
def execAmInitOnKey (b : Byte) (s : State) : Result :=
  byteClass (.amiga .init) (decide (key7 b ≤ s.tables.amigaMaxKey)) (emitKey .amiga (amigaCode b) (makeOfBit7 b)) b s

/-- `DEC.AM.INIT.REJECT` (R212). -/
def execAmInitOnReject (b : Byte) (s : State) : Result :=
  byteClass (.amiga .init) (decide (s.tables.amigaMaxKey < key7 b)) (unexpected .amiga) b s

end Sys2Proof.Machine
end

