-- ==== Sys2Proof/Machine/DecoderM0110.lean ====
section
/-! DEFINITION. The ScancodeDecoder of Apple M0110 (46_decoder_amiga_m0110.md section 2): its transition table and its byte classes. -/

namespace Sys2Proof.Machine

/-- The transition table R215, its classes tested top to bottom. -/
def stepM0110 (tb : Tables) (st : M0State) (b : Byte) : Transition :=
  match st with
  | .init =>
    if !bit0Set b then unexpected .m0110
    else if b = 0x79#8 then toState (.m0110 .p79)
    else if b = 0x71#8 then toState (.m0110 .p71)
    else emitKey .m0110 (m0110Code b) (makeOfBit7 b)
  | .p79 =>
    if !bit0Set b then unexpected .m0110
    else complete .m0110 (eventOfEntry (tableGet tb.m0110Map79 (key6 b)) (makeOfBit7 b))
  | .p71 =>
    if !bit0Set b then unexpected .m0110
    else if b = 0x79#8 then toState (.m0110 .p71x79)
    else unexpected .m0110
  | .p71x79 =>
    if !bit0Set b then unexpected .m0110
    else complete .m0110 (eventOfEntry (tableGet tb.m0110Map7179 (key6 b)) (makeOfBit7 b))

/-- `DEC.M0.INIT.BAD0` (R216). -/
def execM0InitOnBad0 (b : Byte) (s : State) : Result :=
  byteClass (.m0110 .init) (!bit0Set b) (unexpected .m0110) b s

/-- `DEC.M0.INIT.P79` (R217). -/
def execM0InitOnP79 (s : State) : Result :=
  byteClass (.m0110 .init) true (toState (.m0110 .p79)) 0x79#8 s

/-- `DEC.M0.INIT.P71` (R218). -/
def execM0InitOnP71 (s : State) : Result :=
  byteClass (.m0110 .init) true (toState (.m0110 .p71)) 0x71#8 s

/-- `DEC.M0.INIT.KEY` (R219). -/
def execM0InitOnKey (b : Byte) (s : State) : Result :=
  byteClass (.m0110 .init) (bit0Set b && b != 0x79#8 && b != 0x71#8) (emitKey .m0110 (m0110Code b) (makeOfBit7 b)) b s

/-- `DEC.M0.P79.BAD0` (R220). -/
def execM0P79OnBad0 (b : Byte) (s : State) : Result :=
  byteClass (.m0110 .p79) (!bit0Set b) (unexpected .m0110) b s

/-- `DEC.M0.P79.KEY` (R221). -/
def execM0P79OnKey (b : Byte) (s : State) : Result :=
  byteClass (.m0110 .p79) (bit0Set b) (complete .m0110 (eventOfEntry (tableGet s.tables.m0110Map79 (key6 b)) (makeOfBit7 b))) b s

/-- `DEC.M0.P71.BAD0` (R222). -/
def execM0P71OnBad0 (b : Byte) (s : State) : Result :=
  byteClass (.m0110 .p71) (!bit0Set b) (unexpected .m0110) b s

/-- `DEC.M0.P71.79` (R223). -/
def execM0P71On79 (s : State) : Result :=
  byteClass (.m0110 .p71) true (toState (.m0110 .p71x79)) 0x79#8 s

/-- `DEC.M0.P71.OTHER` (R224). -/
def execM0P71OnOther (b : Byte) (s : State) : Result :=
  byteClass (.m0110 .p71) (bit0Set b && b != 0x79#8) (unexpected .m0110) b s

/-- `DEC.M0.P71_79.BAD0` (R225). -/
def execM0P71x79OnBad0 (b : Byte) (s : State) : Result :=
  byteClass (.m0110 .p71x79) (!bit0Set b) (unexpected .m0110) b s

/-- `DEC.M0.P71_79.KEY` (R226). -/
def execM0P71x79OnKey (b : Byte) (s : State) : Result :=
  byteClass (.m0110 .p71x79) (bit0Set b) (complete .m0110 (eventOfEntry (tableGet s.tables.m0110Map7179 (key6 b)) (makeOfBit7 b))) b s

end Sys2Proof.Machine
end

