-- ==== Sys2Proof/Machine/DecoderSet1.lean ====
section
/-! DEFINITION. The ScancodeDecoder of Set 1 (43_decoder_set1.md): its transition table and its byte classes. -/

namespace Sys2Proof.Machine

/-- The transition table R150, its classes tested top to bottom. -/
def stepSet1 (tb : Tables) (st : S1State) (b : Byte) : Transition :=
  match st with
  | .init =>
    if b = 0xE0#8 then toState (.set1 .e0)
    else if b = 0xE1#8 then toState (.set1 .e1)
    else if isLow b then emitKey .set1 b true
    else emitKey .set1 (set1Code b) false
  | .e0 =>
    if isLow b then complete .set1 (eventOfEntry (tableGet tb.set1E0 b) true)
    else complete .set1 (eventOfEntry (tableGet tb.set1E0 (set1Code b)) false)
  | .e1 =>
    if b = 0x1D#8 then toState (.set1 .e1x1D)
    else if b = 0x9D#8 then toState (.set1 .e1x9D)
    else unexpected .set1
  | .e1x1D =>
    if b = 0x45#8 then emitKey .set1 tb.set1Pause true
    else unexpected .set1
  | .e1x9D =>
    if b = 0xC5#8 then emitKey .set1 tb.set1Pause false
    else unexpected .set1

/-- `DEC.S1.INIT.E0` (R151). -/
def execS1InitOnE0 (s : State) : Result :=
  byteClass (.set1 .init) true (toState (.set1 .e0)) 0xE0#8 s

/-- `DEC.S1.INIT.E1` (R152). -/
def execS1InitOnE1 (s : State) : Result :=
  byteClass (.set1 .init) true (toState (.set1 .e1)) 0xE1#8 s

/-- `DEC.S1.INIT.MAKE` (R153). -/
def execS1InitOnMake (b : Byte) (s : State) : Result :=
  byteClass (.set1 .init) (isLow b) (emitKey .set1 b true) b s

/-- `DEC.S1.INIT.BREAK` (R154). -/
def execS1InitOnBreak (b : Byte) (s : State) : Result :=
  byteClass (.set1 .init) (!isLow b && b != 0xE0#8 && b != 0xE1#8) (emitKey .set1 (set1Code b) false) b s

/-- `DEC.S1.E0.MAKE` (R155). -/
def execS1E0OnMake (b : Byte) (s : State) : Result :=
  byteClass (.set1 .e0) (isLow b) (complete .set1 (eventOfEntry (tableGet s.tables.set1E0 b) true)) b s

/-- `DEC.S1.E0.BREAK` (R156). -/
def execS1E0OnBreak (b : Byte) (s : State) : Result :=
  byteClass (.set1 .e0) (!isLow b) (complete .set1 (eventOfEntry (tableGet s.tables.set1E0 (set1Code b)) false)) b s

/-- `DEC.S1.E1.1D` (R159). -/
def execS1E1On1d (s : State) : Result :=
  byteClass (.set1 .e1) true (toState (.set1 .e1x1D)) 0x1D#8 s

/-- `DEC.S1.E1.9D` (R160). -/
def execS1E1On9d (s : State) : Result :=
  byteClass (.set1 .e1) true (toState (.set1 .e1x9D)) 0x9D#8 s

/-- `DEC.S1.E1.OTHER` (R161). -/
def execS1E1OnOther (b : Byte) (s : State) : Result :=
  byteClass (.set1 .e1) (b != 0x1D#8 && b != 0x9D#8) (unexpected .set1) b s

/-- `DEC.S1.E1_1D.45` (R162). -/
def execS1E1x1DOn45 (s : State) : Result :=
  byteClass (.set1 .e1x1D) true (emitKey .set1 s.tables.set1Pause true) 0x45#8 s

/-- `DEC.S1.E1_1D.OTHER` (R163). -/
def execS1E1x1DOnOther (b : Byte) (s : State) : Result :=
  byteClass (.set1 .e1x1D) (b != 0x45#8) (unexpected .set1) b s

/-- `DEC.S1.E1_9D.C5` (R164). -/
def execS1E1x9DOnC5 (s : State) : Result :=
  byteClass (.set1 .e1x9D) true (emitKey .set1 s.tables.set1Pause false) 0xC5#8 s

/-- `DEC.S1.E1_9D.OTHER` (R165). -/
def execS1E1x9DOnOther (b : Byte) (s : State) : Result :=
  byteClass (.set1 .e1x9D) (b != 0xC5#8) (unexpected .set1) b s

end Sys2Proof.Machine
end

