-- ==== Sys2Proof/Machine/DecoderSet2.lean ====
section
/-! DEFINITION. The ScancodeDecoder of Set 2 (44_decoder_set2.md): its transition table and its byte classes. -/

namespace Sys2Proof.Machine

/-- The transition table R170, its classes tested top to bottom. -/
def stepSet2 (tb : Tables) (st : S2State) (b : Byte) : Transition :=
  match st with
  | .init =>
    if b = 0xE0#8 then toState (.set2 .e0)
    else if b = 0xF0#8 then toState (.set2 .f0)
    else if b = 0xE1#8 then toState (.set2 .e1)
    else if b = 0x83#8 then emitKey .set2 tb.set2Alias83 true
    else if b = 0x84#8 then emitKey .set2 tb.set2Alias84 true
    else if isLow b then emitKey .set2 b true
    else unexpected .set2
  | .f0 =>
    if b = 0x83#8 then emitKey .set2 tb.set2Alias83 false
    else if b = 0x84#8 then emitKey .set2 tb.set2Alias84 false
    else if isLow b then emitKey .set2 b false
    else unexpected .set2
  | .e0 =>
    if b = 0xF0#8 then toState (.set2 .e0F0)
    else if isLow b then complete .set2 (eventOfEntry (tableGet tb.set2E0 b) true)
    else unexpected .set2
  | .e0F0 =>
    if isLow b then complete .set2 (eventOfEntry (tableGet tb.set2E0 b) false)
    else unexpected .set2
  | .e1 =>
    if b = 0x14#8 then toState (.set2 .e1x14)
    else if b = 0xF0#8 then toState (.set2 .e1F0)
    else unexpected .set2
  | .e1x14 =>
    if b = 0x77#8 then emitKey .set2 tb.set2Pause true
    else unexpected .set2
  | .e1F0 =>
    if b = 0x14#8 then toState (.set2 .e1F0x14)
    else unexpected .set2
  | .e1F0x14 =>
    if b = 0xF0#8 then toState (.set2 .e1F0x14F0)
    else unexpected .set2
  | .e1F0x14F0 =>
    if b = 0x77#8 then emitKey .set2 tb.set2Pause false
    else unexpected .set2

/-- `DEC.S2.INIT.E0` (R171). -/
def execS2InitOnE0 (s : State) : Result :=
  byteClass (.set2 .init) true (toState (.set2 .e0)) 0xE0#8 s

/-- `DEC.S2.INIT.F0` (R172). -/
def execS2InitOnF0 (s : State) : Result :=
  byteClass (.set2 .init) true (toState (.set2 .f0)) 0xF0#8 s

/-- `DEC.S2.INIT.E1` (R173). -/
def execS2InitOnE1 (s : State) : Result :=
  byteClass (.set2 .init) true (toState (.set2 .e1)) 0xE1#8 s

/-- `DEC.S2.INIT.A83` (R174). -/
def execS2InitOnA83 (s : State) : Result :=
  byteClass (.set2 .init) true (emitKey .set2 s.tables.set2Alias83 true) 0x83#8 s

/-- `DEC.S2.INIT.A84` (R175). -/
def execS2InitOnA84 (s : State) : Result :=
  byteClass (.set2 .init) true (emitKey .set2 s.tables.set2Alias84 true) 0x84#8 s

/-- `DEC.S2.INIT.MAKE` (R176). -/
def execS2InitOnMake (b : Byte) (s : State) : Result :=
  byteClass (.set2 .init) (isLow b) (emitKey .set2 b true) b s

/-- `DEC.S2.INIT.OTHER` (R177). -/
def execS2InitOnOther (b : Byte) (s : State) : Result :=
  byteClass (.set2 .init) (!isLow b && b != 0xE0#8 && b != 0xF0#8 && b != 0xE1#8 && b != 0x83#8 && b != 0x84#8) (unexpected .set2) b s

/-- `DEC.S2.F0.A83` (R178). -/
def execS2F0OnA83 (s : State) : Result :=
  byteClass (.set2 .f0) true (emitKey .set2 s.tables.set2Alias83 false) 0x83#8 s

/-- `DEC.S2.F0.A84` (R179). -/
def execS2F0OnA84 (s : State) : Result :=
  byteClass (.set2 .f0) true (emitKey .set2 s.tables.set2Alias84 false) 0x84#8 s

/-- `DEC.S2.F0.BREAK` (R180). -/
def execS2F0OnBreak (b : Byte) (s : State) : Result :=
  byteClass (.set2 .f0) (isLow b) (emitKey .set2 b false) b s

/-- `DEC.S2.F0.OTHER` (R181). -/
def execS2F0OnOther (b : Byte) (s : State) : Result :=
  byteClass (.set2 .f0) (!isLow b && b != 0x83#8 && b != 0x84#8) (unexpected .set2) b s

/-- `DEC.S2.E0.F0` (R182). -/
def execS2E0OnF0 (s : State) : Result :=
  byteClass (.set2 .e0) true (toState (.set2 .e0F0)) 0xF0#8 s

/-- `DEC.S2.E0.KEY` (R183). -/
def execS2E0OnKey (b : Byte) (s : State) : Result :=
  byteClass (.set2 .e0) (isLow b) (complete .set2 (eventOfEntry (tableGet s.tables.set2E0 b) true)) b s

/-- `DEC.S2.E0.OTHER` (R184). -/
def execS2E0OnOther (b : Byte) (s : State) : Result :=
  byteClass (.set2 .e0) (!isLow b && b != 0xF0#8) (unexpected .set2) b s

/-- `DEC.S2.E0_F0.KEY` (R185). -/
def execS2E0F0OnKey (b : Byte) (s : State) : Result :=
  byteClass (.set2 .e0F0) (isLow b) (complete .set2 (eventOfEntry (tableGet s.tables.set2E0 b) false)) b s

/-- `DEC.S2.E0_F0.OTHER` (R186). -/
def execS2E0F0OnOther (b : Byte) (s : State) : Result :=
  byteClass (.set2 .e0F0) (!isLow b) (unexpected .set2) b s

/-- `DEC.S2.E1.14` (R187). -/
def execS2E1On14 (s : State) : Result :=
  byteClass (.set2 .e1) true (toState (.set2 .e1x14)) 0x14#8 s

/-- `DEC.S2.E1.F0` (R188). -/
def execS2E1OnF0 (s : State) : Result :=
  byteClass (.set2 .e1) true (toState (.set2 .e1F0)) 0xF0#8 s

/-- `DEC.S2.E1.OTHER` (R189). -/
def execS2E1OnOther (b : Byte) (s : State) : Result :=
  byteClass (.set2 .e1) (b != 0x14#8 && b != 0xF0#8) (unexpected .set2) b s

/-- `DEC.S2.E1_14.77` (R190). -/
def execS2E1x14On77 (s : State) : Result :=
  byteClass (.set2 .e1x14) true (emitKey .set2 s.tables.set2Pause true) 0x77#8 s

/-- `DEC.S2.E1_14.OTHER` (R191). -/
def execS2E1x14OnOther (b : Byte) (s : State) : Result :=
  byteClass (.set2 .e1x14) (b != 0x77#8) (unexpected .set2) b s

/-- `DEC.S2.E1_F0.14` (R192). -/
def execS2E1F0On14 (s : State) : Result :=
  byteClass (.set2 .e1F0) true (toState (.set2 .e1F0x14)) 0x14#8 s

/-- `DEC.S2.E1_F0.OTHER` (R193). -/
def execS2E1F0OnOther (b : Byte) (s : State) : Result :=
  byteClass (.set2 .e1F0) (b != 0x14#8) (unexpected .set2) b s

/-- `DEC.S2.E1_F0_14.F0` (R194). -/
def execS2E1F0x14OnF0 (s : State) : Result :=
  byteClass (.set2 .e1F0x14) true (toState (.set2 .e1F0x14F0)) 0xF0#8 s

/-- `DEC.S2.E1_F0_14.OTHER` (R195). -/
def execS2E1F0x14OnOther (b : Byte) (s : State) : Result :=
  byteClass (.set2 .e1F0x14) (b != 0xF0#8) (unexpected .set2) b s

/-- `DEC.S2.E1_F0_14_F0.77` (R196). -/
def execS2E1F0x14F0On77 (s : State) : Result :=
  byteClass (.set2 .e1F0x14F0) true (emitKey .set2 s.tables.set2Pause false) 0x77#8 s

/-- `DEC.S2.E1_F0_14_F0.OTHER` (R197). -/
def execS2E1F0x14F0OnOther (b : Byte) (s : State) : Result :=
  byteClass (.set2 .e1F0x14F0) (b != 0x77#8) (unexpected .set2) b s

end Sys2Proof.Machine
end

