-- ==== Sys2Proof/Machine/DecoderSet3.lean ====
section
/-! DEFINITION. The ScancodeDecoder of Set 3 (45_decoder_set3.md): its transition table and its byte classes. -/

namespace Sys2Proof.Machine

/-- `remap(b)` where it is defined (R200, R202); elsewhere a byte is left as it is (R208). -/
def remapped (r : Remap) (b : Byte) : Byte := (remap r b).getD b

/-- The transition table R200, its classes tested top to bottom. -/
def stepSet3 (tb : Tables) (st : S3State) (b : Byte) : Transition :=
  match st with
  | .init =>
    if b = 0xF0#8 then toState (.set3 .f0)
    else if (remap tb.set3Remap b).isSome then emitKey .set3 (remapped tb.set3Remap b) true
    else if isLow b then emitKey .set3 b true
    else unexpected .set3
  | .f0 =>
    if (remap tb.set3Remap b).isSome then emitKey .set3 (remapped tb.set3Remap b) false
    else if isLow b then emitKey .set3 b false
    else unexpected .set3

/-- `DEC.S3.INIT.F0` (R201). -/
def execS3InitOnF0 (s : State) : Result :=
  byteClass (.set3 .init) true (toState (.set3 .f0)) 0xF0#8 s

/-- `DEC.S3.INIT.REMAP` (R202). -/
def execS3InitOnRemap (b : Byte) (s : State) : Result :=
  byteClass (.set3 .init) (b != 0xF0#8 && (remap s.tables.set3Remap b).isSome) (emitKey .set3 (remapped s.tables.set3Remap b) true) b s

/-- `DEC.S3.INIT.MAKE` (R203). -/
def execS3InitOnMake (b : Byte) (s : State) : Result :=
  byteClass (.set3 .init) ((remap s.tables.set3Remap b).isNone && isLow b) (emitKey .set3 b true) b s

/-- `DEC.S3.INIT.OTHER` (R204). -/
def execS3InitOnOther (b : Byte) (s : State) : Result :=
  byteClass (.set3 .init) (b != 0xF0#8 && (remap s.tables.set3Remap b).isNone && !isLow b) (unexpected .set3) b s

/-- `DEC.S3.F0.REMAP` (R205). -/
def execS3F0OnRemap (b : Byte) (s : State) : Result :=
  byteClass (.set3 .f0) ((remap s.tables.set3Remap b).isSome) (emitKey .set3 (remapped s.tables.set3Remap b) false) b s

/-- `DEC.S3.F0.BREAK` (R206). -/
def execS3F0OnBreak (b : Byte) (s : State) : Result :=
  byteClass (.set3 .f0) ((remap s.tables.set3Remap b).isNone && isLow b) (emitKey .set3 b false) b s

/-- `DEC.S3.F0.OTHER` (R207). -/
def execS3F0OnOther (b : Byte) (s : State) : Result :=
  byteClass (.set3 .f0) ((remap s.tables.set3Remap b).isNone && !isLow b) (unexpected .set3) b s

end Sys2Proof.Machine
end

