-- ==== Sys2Proof/Machine/Decoder.lean ====
section
/-! DEFINITION. `DEC.FEED`: the step of the selected code set's decoder (R140). -/

namespace Sys2Proof.Machine

/-- `step_<CODESET>` (R140): the code set is the one the decoder state belongs to. -/
def stepDecoder (tb : Tables) (d : DecState) (b : Byte) : Transition :=
  match d with
  | .set1 st => stepSet1 tb st b
  | .set2 st => stepSet2 tb st b
  | .set3 st => stepSet3 tb st b
  | .amiga st => stepAmiga tb st b
  | .m0110 st => stepM0110 tb st b

/-- The event that feeding a byte gives in a state (R140). -/
def feedEvent (b : Byte) (s : State) : Option KeyEvent := (stepDecoder s.tables s.dec b).event

/-- What feeding a byte does to the state (R140). -/
def feed (b : Byte) (s : State) : State := applyTransition (stepDecoder s.tables s.dec b) b s

/-- `DEC.FEED` (R140). -/
def execDecFeed (b : Byte) (s : State) : Result :=
  afterSetup s (.next ((feed b s).answer (.fed (feedEvent b s))))

end Sys2Proof.Machine
end

