-- ==== Sys2Proof/Machine/Pipeline.lean ====
section
/-! DEFINITION. The consumer's task iteration (47_pipeline.md), `TASK.ITER`, with a boundary at which the producer may run
between each two of its micro-steps (R10, R236). -/

namespace Sys2Proof.Machine

/-- Micro-step T5: `SES.on_tick(now)` (R236). -/
def tick (now : Nat) (s : State) : State := s.ask (.onTick now)

/-- Micro-step T4: an event is delivered to the sink (R236, R239); where there is none, there is no micro-step. -/
def deliverEvent (e : Option KeyEvent) (s : State) : State :=
  match e with
  | none => s
  | some ev => (preempt s).emitHid ev

/-- Micro-steps T2 to T4: at most one byte is taken from the ring, fed to the decoder, and its event delivered (R236,
R238). -/
def drain (s : State) : State :=
  if rbEmpty s then s
  else
    let got := ringGet (preempt s)
    let ready := preempt got.1
    deliverEvent (feedEvent got.2.1 ready) (feed got.2.1 ready)

/-- The body of `TASK.ITER` (R236): `HID.ready()` is asked (T1); only a ready sink lets a byte out (R237); the session's
tick comes last, whether or not a byte was drained (R235). -/
def taskIterBody (now : Nat) (ready : Bool) (s : State) : State :=
  let asked := preempt (s.ask .hidReady)
  if ready then tick now (preempt (drain asked)) else tick now asked

/-- `TASK.ITER` (R236). -/
def execTaskIter (now : Nat) (ready : Bool) (s : State) : Result :=
  afterSetup s (ended (taskIterBody now ready s))

end Sys2Proof.Machine
end

