-- ==== Sys2Proof/Machine/Setup.lean ====
section
/-! DEFINITION. `SETUP` (70_reset_and_hazards.md R300). -/

namespace Sys2Proof.Machine

/-- `SETUP(proto, codeset)` (R300): the interrupt is masked, the configuration written, the ring reset (the producer is
quiescent, since it is masked), the decoder put into `INIT` of the code set, the interrupt enabled. It is defined on every
state (U5); slots, streams and inputs are untouched. -/
def execSetup (p : Proto) (c : CodeSet) (s : State) : Result :=
  let masked := (s.setIrqEn false).setProto p
  let cleared := (clearIndices masked).setDec (DecState.initOf c)
  .next (((cleared.setIrqEn true).markSetup).answer .none)

end Sys2Proof.Machine
end

