-- ==== Sys2Proof/Machine/Dispatch.lean ====
section
/-! DEFINITION. One meaning per operation. -/

namespace Sys2Proof.Machine

def exec (i : Instr) (s : State) : Host.Outcome State Fault Refusal :=
  match i with
  | .rxAtBadStart w => Sys2Proof.Machine.execRxAtBadStart w s
  | .rxAtBadStop w => Sys2Proof.Machine.execRxAtBadStop w s
  | .rxAtBadParity w => Sys2Proof.Machine.execRxAtBadParity w s
  | .rxAtOk w a => Sys2Proof.Machine.execRxAtOk w a s
  | .rxXtBadStart w => Sys2Proof.Machine.execRxXtBadStart w s
  | .rxXtOk w a => Sys2Proof.Machine.execRxXtOk w a s
  | .setup proto codeset => Sys2Proof.Machine.execSetup proto codeset s
  | .rxAt w a => Sys2Proof.Machine.execRxAt w a s
  | .rxXt w a => Sys2Proof.Machine.execRxXt w a s
  | .rbIsEmpty => Sys2Proof.Machine.execRbIsEmpty s
  | .rbIsFull => Sys2Proof.Machine.execRbIsFull s
  | .rbPut b => Sys2Proof.Machine.execRbPut b s
  | .rbGet => Sys2Proof.Machine.execRbGet s
  | .rbReset => Sys2Proof.Machine.execRbReset s
  | .decFeed b => Sys2Proof.Machine.execDecFeed b s
  | .taskIter now ready => Sys2Proof.Machine.execTaskIter now ready s
  | .s1InitOnE0 => Sys2Proof.Machine.execS1InitOnE0 s
  | .s1InitOnE1 => Sys2Proof.Machine.execS1InitOnE1 s
  | .s1InitOnMake b => Sys2Proof.Machine.execS1InitOnMake b s
  | .s1InitOnBreak b => Sys2Proof.Machine.execS1InitOnBreak b s
  | .s1E0OnMake b => Sys2Proof.Machine.execS1E0OnMake b s
  | .s1E0OnBreak b => Sys2Proof.Machine.execS1E0OnBreak b s
  | .s1E1On1d => Sys2Proof.Machine.execS1E1On1d s
  | .s1E1On9d => Sys2Proof.Machine.execS1E1On9d s
  | .s1E1OnOther b => Sys2Proof.Machine.execS1E1OnOther b s
  | .s1E1x1DOn45 => Sys2Proof.Machine.execS1E1x1DOn45 s
  | .s1E1x1DOnOther b => Sys2Proof.Machine.execS1E1x1DOnOther b s
  | .s1E1x9DOnC5 => Sys2Proof.Machine.execS1E1x9DOnC5 s
  | .s1E1x9DOnOther b => Sys2Proof.Machine.execS1E1x9DOnOther b s
  | .s2InitOnE0 => Sys2Proof.Machine.execS2InitOnE0 s
  | .s2InitOnF0 => Sys2Proof.Machine.execS2InitOnF0 s
  | .s2InitOnE1 => Sys2Proof.Machine.execS2InitOnE1 s
  | .s2InitOnA83 => Sys2Proof.Machine.execS2InitOnA83 s
  | .s2InitOnA84 => Sys2Proof.Machine.execS2InitOnA84 s
  | .s2InitOnMake b => Sys2Proof.Machine.execS2InitOnMake b s
  | .s2InitOnOther b => Sys2Proof.Machine.execS2InitOnOther b s
  | .s2F0OnA83 => Sys2Proof.Machine.execS2F0OnA83 s
  | .s2F0OnA84 => Sys2Proof.Machine.execS2F0OnA84 s
  | .s2F0OnBreak b => Sys2Proof.Machine.execS2F0OnBreak b s
  | .s2F0OnOther b => Sys2Proof.Machine.execS2F0OnOther b s
  | .s2E0OnF0 => Sys2Proof.Machine.execS2E0OnF0 s
  | .s2E0OnKey b => Sys2Proof.Machine.execS2E0OnKey b s
  | .s2E0OnOther b => Sys2Proof.Machine.execS2E0OnOther b s
  | .s2E0F0OnKey b => Sys2Proof.Machine.execS2E0F0OnKey b s
  | .s2E0F0OnOther b => Sys2Proof.Machine.execS2E0F0OnOther b s
  | .s2E1On14 => Sys2Proof.Machine.execS2E1On14 s
  | .s2E1OnF0 => Sys2Proof.Machine.execS2E1OnF0 s
  | .s2E1OnOther b => Sys2Proof.Machine.execS2E1OnOther b s
  | .s2E1x14On77 => Sys2Proof.Machine.execS2E1x14On77 s
  | .s2E1x14OnOther b => Sys2Proof.Machine.execS2E1x14OnOther b s
  | .s2E1F0On14 => Sys2Proof.Machine.execS2E1F0On14 s
  | .s2E1F0OnOther b => Sys2Proof.Machine.execS2E1F0OnOther b s
  | .s2E1F0x14OnF0 => Sys2Proof.Machine.execS2E1F0x14OnF0 s
  | .s2E1F0x14OnOther b => Sys2Proof.Machine.execS2E1F0x14OnOther b s
  | .s2E1F0x14F0On77 => Sys2Proof.Machine.execS2E1F0x14F0On77 s
  | .s2E1F0x14F0OnOther b => Sys2Proof.Machine.execS2E1F0x14F0OnOther b s
  | .s3InitOnF0 => Sys2Proof.Machine.execS3InitOnF0 s
  | .s3InitOnRemap b => Sys2Proof.Machine.execS3InitOnRemap b s
  | .s3InitOnMake b => Sys2Proof.Machine.execS3InitOnMake b s
  | .s3InitOnOther b => Sys2Proof.Machine.execS3InitOnOther b s
  | .s3F0OnRemap b => Sys2Proof.Machine.execS3F0OnRemap b s
  | .s3F0OnBreak b => Sys2Proof.Machine.execS3F0OnBreak b s
  | .s3F0OnOther b => Sys2Proof.Machine.execS3F0OnOther b s
  | .amInitOnKey b => Sys2Proof.Machine.execAmInitOnKey b s
  | .amInitOnReject b => Sys2Proof.Machine.execAmInitOnReject b s
  | .m0InitOnBad0 b => Sys2Proof.Machine.execM0InitOnBad0 b s
  | .m0InitOnP79 => Sys2Proof.Machine.execM0InitOnP79 s
  | .m0InitOnP71 => Sys2Proof.Machine.execM0InitOnP71 s
  | .m0InitOnKey b => Sys2Proof.Machine.execM0InitOnKey b s
  | .m0P79OnBad0 b => Sys2Proof.Machine.execM0P79OnBad0 b s
  | .m0P79OnKey b => Sys2Proof.Machine.execM0P79OnKey b s
  | .m0P71OnBad0 b => Sys2Proof.Machine.execM0P71OnBad0 b s
  | .m0P71On79 => Sys2Proof.Machine.execM0P71On79 s
  | .m0P71OnOther b => Sys2Proof.Machine.execM0P71OnOther b s
  | .m0P71x79OnBad0 b => Sys2Proof.Machine.execM0P71x79OnBad0 b s
  | .m0P71x79OnKey b => Sys2Proof.Machine.execM0P71x79OnKey b s

end Sys2Proof.Machine
end

