-- ==== Sys2Proof/Machine/Fetch.lean ====
section
/-! DEFINITION. What the machine does next (R10, R26, R231, R279 to R282): the block has no program counter and fetches no
instruction; the next event of the agenda starts an operation, which the decoder reads in the context of the state. -/

namespace Sys2Proof.Machine

/-- What the next event comes to. -/
inductive Fetched where
  /-- no operation starts; the state after the event -/
  | idle (s : State)
  /-- an operation starts in a state -/
  | run (i : Instr) (s : State)
  /-- the event starts an operation that the contract gives no meaning -/
  | stop (r : Refusal)
deriving DecidableEq, Repr

/-- An agent starts what the decoder reads: only an operation of its own context (R285, U6), and the producer only while
`irq_en` is 1 (R280). Words that wait in the receiver are no matter here: a direct call of `RX.AT` or `RX.XT` goes ahead of
them (DESIGN CHOICE, log entry 27). -/
def startOperation (agent : Agent) (e : Encoded) (s : State) : Fetched :=
  match decode s.context e with
  | .error (.badCodeSet c) => .stop (.badCodeSet c)
  | .ok i =>
    if i.agent ≠ agent then .stop .wrongContext
    else if agent = .producer ∧ s.irqEn = false then .stop .producerMasked
    else .run i s

/-- The receiver's interrupt (R279 to R281): the producer takes the oldest waiting word, if `irq_en` is 1 and one waits. -/
def takeInterrupt (s : State) : Fetched :=
  match s.irqEn, s.env.rcv with
  | true, f :: rest => startOperation .producer (.frame f.raw f.answer) (s.setRcv rest)
  | _, _ => .idle s

/-- What one event comes to. DESIGN CHOICE (log entry 27): a direct call of `RX.AT` or `RX.XT` runs its operand word even
while older words wait in the receiver, and leaves those waiting; the spec says only that words are taken in the order
delivered (R231), and its script has no such case (R88). -/
def runEvent (e : Event) (s : State) : Fetched :=
  match e with
  | .started agent c => startOperation agent (.call c) s
  | .scan b => startOperation .consumer (.scan b) s
  | .interrupt => takeInterrupt s
  | .deliver f => .idle (s.setRcv (s.env.rcv ++ [f]))
  | .setIrq on => .idle (s.setIrqEn on)

/-- The next event is taken off the agenda and acted on; where the agenda is at its end nothing starts (log entry 7). -/
def fetch (s : State) : Fetched :=
  match s.env.agenda with
  | [] => .idle s
  | e :: rest => runEvent e (s.setAgenda rest)

/-- The state in which the next event starts the operation of an opcode-table word: the word waits in the receiver and the
interrupt comes, or the byte is fed; with the protocol and framing, or the decoder state, that the word is read in
(log entry 16). A word placed goes ahead of those that wait already (DESIGN CHOICE, log entry 27). -/
def placeWord (s : State) (nbits w : Nat) : State :=
  match tableEncoded nbits w with
  | some (.frame raw a) =>
    { s with
      proto := tableProto nbits
      framing := Config.framing
      setupDone := true
      irqEn := true
      env := { agenda := .interrupt :: s.env.agenda, rcv := { raw := raw, answer := a } :: s.env.rcv,
               preempts := s.env.preempts } }
  | some (.scan b) =>
    { s with
      setupDone := true
      dec := tableDecState b
      env := { s.env with agenda := .scan b :: s.env.agenda } }
  | _ => s

end Sys2Proof.Machine
end

