-- ==== Sys2Proof/Safety.lean ====
section
/-! DEFINITION. What counts as a good state and as a safe run, in the terms the statements use. -/

namespace Sys2Proof.Machine

/-- The address of the `i`th slot of the live range, counted from `rb.tail` (R28). -/
def liveSlot (s : State) (i : Nat) : Index := s.rb.tail + BitVec.ofNat 5 i

/-- The bytes held from an address on, oldest first (R28). A slot that holds no value is passed over; none is in the live
range of a good state. -/
def heldFrom (m : List Host.Cell) (a : Index) : Nat → List Byte
  | 0 => []
  | n + 1 => (Memory.read m a.toNat).toList ++ heldFrom m (nextIndex a) n

/-- The bytes put and not yet got, oldest first: those of the live range (R28). -/
def held (s : State) : List Byte := heldFrom s.rb.buf s.rb.tail (rbCount s)

/-- Every slot of the live range holds a byte (R28). -/
def liveWritten (s : State) : Bool :=
  (List.range (rbCount s)).all fun i => (Memory.read s.rb.buf (liveSlot s i).toNat).isSome

/-- A good state: the ring storage is in its canonical form, every slot of the live range has been written, and the tables
meet the constraints the spec puts on them (R28, R51, R158, R208). -/
def State.good (s : State) : Bool := Memory.wf s.rb.buf && liveWritten s && s.tables.wf

/-- The events of folding `step_<CODESET>` over bytes from a decoder state (R241). -/
def decodedEvents (tb : Tables) (d : DecState) : List Byte → List KeyEvent
  | [] => []
  | b :: rest =>
    (stepDecoder tb d b).event.toList ++ decodedEvents tb (stepDecoder tb d b).next rest

/-- What the sink has been and will be delivered if nothing more is put: the `hid` stream and the events of the bytes
held (R241). -/
def promisedEvents (s : State) : List KeyEvent := s.out.hid ++ decodedEvents s.tables s.dec (held s)

/-- The puts of a list of bytes, one after the other (R127). -/
def putAll : List Byte → State → Host.Outcome State Fault Refusal
  | [], s => .next s
  | b :: rest, s => andThen (exec (.rbPut b) s) (putAll rest)

/-- A number of gets, one after the other, and what they return (R127). -/
def getAll : Nat → State → Host.Outcome (State × List CallResult) Fault Refusal
  | 0, s => .next (s, [])
  | n + 1, s =>
    andThen (exec .rbGet s) fun t => andThen (getAll n t) fun r => .next (r.1, t.result :: r.2)

/-- The operation the producer runs on a word it takes: `RX.AT` or `RX.XT`, by `PROTO` (R231, R281). -/
def wordOperation (s : State) (f : Frame) : Instr :=
  match s.proto with
  | .atPs2 => .rxAt (atOfRaw f.raw) f.answer
  | .xt => .rxXt (xtOfRaw f.raw) f.answer

/-- Up to `n` operations of the producer, each as `exec` gives it: the oldest waiting word leaves the receiver and `RX.AT`
or `RX.XT` runs on it (R231), as long as `irq_en` is 1 and a word waits (R280). `result` stays that of the consumer, whose
operation is under way (log entry 9). -/
def runWords : Nat → State → Host.Outcome State Fault Refusal
  | 0, s => .next s
  | n + 1, s =>
    match s.irqEn, s.env.rcv with
    | true, f :: rest => andThen (exec (wordOperation s f) (s.setRcv rest)) fun t => runWords n (t.answer s.result)
    | _, _ => .next s

/-- What R10 lets happen between two micro-steps of the consumer, said through `exec`: as many operations of the producer
as the next entry of the schedule asks for (log entry 8). -/
def atBoundary (s : State) : Host.Outcome State Fault Refusal :=
  match s.env.preempts with
  | [] => .next s
  | n :: rest => runWords n (s.setPreempts rest)

/-- Feeding `b`, and the byte class `i`, each take the decoder to `d`, return `e` and change nothing else (R140). -/
def feedsTo (s : State) (i : Instr) (b : Byte) (d : DecState) (e : Option KeyEvent) : Prop :=
  exec i s = .next ((s.setDec d).answer (.fed e)) ∧ exec (.decFeed b) s = .next ((s.setDec d).answer (.fed e))

/-- Feeding `b`, and the byte class `i`, each take the decoder to `d`, return no event, record `SequenceError` with the
state before the step and the byte, and change nothing else (R142, R275). -/
def feedRejected (s : State) (i : Instr) (b : Byte) (d : DecState) : Prop :=
  exec i s = .next (((s.emitDiag (.sequenceError s.dec b)).setDec d).answer (.fed none)) ∧
    exec (.decFeed b) s = .next (((s.emitDiag (.sequenceError s.dec b)).setDec d).answer (.fed none))

end Sys2Proof.Machine
end

