-- ==== Sys2Proof/Certificates/Slice0/Obligations.lean ====
section
/-! DEFINITION. The statements about the machine, for the provers. -/

open Sys2Proof Sys2Proof.Machine

/-- R70 to R77, R80, R85, R86: in every context that selects its class table, a well-formed operation is what the decoder reads from its encoding. -/
def Obligations.DecodeEncodeAgree : Prop :=
  ∀ (ctx : DecodeContext) (i : Instr), i.wf ctx.framing ctx.tables = true → selects ctx i = true →
    decode ctx (encode i) = .ok i

/-- R76, R77, R86: the classes of a state are a partition in which the first match wins, so an operation that is read satisfies the whole condition of its class. -/
def Obligations.DecodedOperationIsWellFormed : Prop :=
  ∀ (ctx : DecodeContext) (e : Encoded) (i : Instr), decode ctx e = .ok i →
    i.wf ctx.framing ctx.tables = true ∧ selects ctx i = true

/-- R73, U9: bits above bit 10 (above bit 8 for XT) are not part of the frame. The 16-bit container is the choice of the model (log entry 6). -/
def Obligations.ContainerBitsAboveFrameIgnored : Prop :=
  ∀ (ctx : DecodeContext) (r : RawWord) (a : Action),
    (ctx.proto = .atPs2 → decode ctx (.frame r a) = decode ctx (.frame (r &&& 0x7FF#16) a)) ∧
    (ctx.proto = .xt → decode ctx (.frame r a) = decode ctx (.frame (r &&& 0x1FF#16) a))

/-- Words written out from the vectors of 95_test_vectors.md and 96_test_vectors_decoders.md. -/
def Obligations.SampleWordsDecode : Prop :=
  ∀ (tb : Tables) (d : DecState),
    decode { proto := .atPs2, framing := Config.framing, tables := tb, dec := d } (.frame 0x438#16 .none) = .ok (.rxAtOk 0x438#11 .none) ∧
    decode { proto := .atPs2, framing := Config.framing, tables := tb, dec := d } (.frame 0x7FF#16 .none) = .ok (.rxAtBadStart 0x7FF#11) ∧
    decode { proto := .atPs2, framing := Config.framing, tables := tb, dec := d } (.frame 0x200#16 .none) = .ok (.rxAtBadStop 0x200#11) ∧
    decode { proto := .atPs2, framing := Config.framing, tables := tb, dec := d } (.frame 0x638#16 .none) = .ok (.rxAtBadParity 0x638#11) ∧
    decode { proto := .xt, framing := Config.framing, tables := tb, dec := d } (.frame 0x155#16 .none) = .ok (.rxXtOk 0x155#9 .none) ∧
    decode { proto := .xt, framing := Config.framing, tables := tb, dec := d } (.frame 0x154#16 .none) = .ok (.rxXtBadStart 0x154#9) ∧
    (∀ p fr, decode { proto := p, framing := fr, tables := tb, dec := .set1 .e0 } (.scan 0xE0#8) = .ok (.s1E0OnBreak 0xE0#8) ∧
      decode { proto := p, framing := fr, tables := tb, dec := .set2 .f0 } (.scan 0x84#8) = .ok .s2F0OnA84 ∧
      decode { proto := p, framing := fr, tables := tb, dec := .set3 .init } (.scan 0xF0#8) = .ok .s3InitOnF0 ∧
      decode { proto := p, framing := fr, tables := { tb with amigaMaxKey := 0x67#7 }, dec := .amiga .init } (.scan 0xE8#8) = .ok (.amInitOnReject 0xE8#8) ∧
      decode { proto := p, framing := fr, tables := tb, dec := .m0110 .p79 } (.scan 0x79#8) = .ok (.m0P79OnKey 0x79#8))

/-- R101 (and the uniqueness R102 derives from it). -/
def Obligations.ParityLaw : Prop :=
  (∀ b : Byte, (popcount b + (par b).toNat) % 2 = 1) ∧
    ∀ f : Byte → Bool, (∀ b : Byte, (popcount b + (f b).toNat) % 2 = 1) → f = par

/-- R104, R107, with their corner cases and examples. -/
def Obligations.FrameChecksInOrder : Prop :=
  (∀ (fr : Framing) (w : AtFrame),
      (w.getLsbD 0 ≠ fr.atStart → decodeAt fr w = .error .badStart) ∧
      (w.getLsbD 0 = fr.atStart → w.getLsbD 10 ≠ fr.atStop → decodeAt fr w = .error .badStop) ∧
      (w.getLsbD 0 = fr.atStart → w.getLsbD 10 = fr.atStop → w.getLsbD 9 ≠ par (w.extractLsb' 1 8) →
        decodeAt fr w = .error .badParity) ∧
      (w.getLsbD 0 = fr.atStart → w.getLsbD 10 = fr.atStop → w.getLsbD 9 = par (w.extractLsb' 1 8) →
        decodeAt fr w = .ok (w.extractLsb' 1 8))) ∧
    (∀ (fr : Framing) (w : XtFrame),
      (w.getLsbD 0 ≠ fr.xtStart → decodeXt fr w = .error .badStart) ∧
      (w.getLsbD 0 = fr.xtStart → decodeXt fr w = .ok (w.extractLsb' 1 8))) ∧
    decodeAt Config.framing 0x000#11 = .error .badStop ∧ decodeAt Config.framing 0x7FF#11 = .error .badStart ∧
    decodeAt Config.framing 0x400#11 = .error .badParity ∧ decodeAt Config.framing 0x600#11 = .ok 0x00#8 ∧
    decodeAt Config.framing 0x438#11 = .ok 0x1C#8 ∧
    decodeXt Config.framing 0x000#9 = .error .badStart ∧ decodeXt Config.framing 0x001#9 = .ok 0x00#8 ∧
    decodeXt Config.framing 0x1FF#9 = .ok 0xFF#8 ∧ decodeXt Config.framing 0x039#9 = .ok 0x1C#8

/-- The exhaustive checks of 95_test_vectors.md sections 2.1 and 2.2, for every framing. -/
def Obligations.GoodFrameWordsValidate : Prop :=
  ∀ (fr : Framing) (b : Byte), decodeAt fr (atWord fr b) = .ok b ∧
    decodeAt fr (atWord fr b ^^^ 0x200#11) = .error .badParity ∧ decodeXt fr (xtWord fr b) = .ok b

/-- R78. -/
def Obligations.TransmitWordLayout : Prop :=
  (∀ c : Byte, (txWord c).extractLsb' 0 8 = c ∧ (txWord c).getLsbD 8 = par c ∧
      (popcount c + ((txWord c).getLsbD 8).toNat) % 2 = 1) ∧
    txWord 0xFE#8 = 0x0FE#9 ∧ txWord 0xED#8 = 0x1ED#9

/-- R10, R231, R280, R285: the next event starts an operation. The agenda is a device of the model (log entry 7); that a direct call of RX.AT or RX.XT goes ahead of words that wait is its choice (log entry 27). -/
def Obligations.StepRunsDecodedOperation : Prop :=
  (∀ (s : State) (b : Byte) (rest : List Event) (i : Instr), s.env.agenda = .scan b :: rest →
      decode s.context (.scan b) = .ok i → step s = exec i (s.setAgenda rest)) ∧
    (∀ (s : State) (f : Frame) (words : List Frame) (rest : List Event) (i : Instr),
      s.env.agenda = .interrupt :: rest → s.irqEn = true → s.env.rcv = f :: words →
      decode s.context (.frame f.raw f.answer) = .ok i →
      step s = exec i ((s.setAgenda rest).setRcv words)) ∧
    (∀ (s : State) (agent : Agent) (c : Call) (rest : List Event) (i : Instr),
      s.env.agenda = .started agent c :: rest → decode s.context (.call c) = .ok i → i.agent = agent →
      (agent = .producer → s.irqEn = true) → step s = exec i (s.setAgenda rest))

/-- R33, R280, R285, U6, U8. The agenda is a device of the model (log entry 7); that a masked call is refused is its choice (log entry 15). -/
def Obligations.EventsThatStartNoOperation : Prop :=
  ∀ s : State,
    (s.env.agenda = [] → step s = .next s) ∧
    (∀ rest, s.env.agenda = .interrupt :: rest → s.irqEn = false ∨ s.env.rcv = [] → step s = .next (s.setAgenda rest)) ∧
    (∀ rest f, s.env.agenda = .deliver f :: rest → step s = .next ((s.setAgenda rest).setRcv (s.env.rcv ++ [f]))) ∧
    (∀ rest v, s.env.agenda = .setIrq v :: rest → step s = .next ((s.setAgenda rest).setIrqEn v)) ∧
    (∀ rest agent c i, s.env.agenda = .started agent c :: rest → decode s.context (.call c) = .ok i →
      i.agent ≠ agent → step s = .refused .wrongContext) ∧
    (∀ rest c i, s.env.agenda = .started .producer c :: rest → decode s.context (.call c) = .ok i →
      i.agent = .producer → s.irqEn = false → step s = .refused .producerMasked) ∧
    (∀ rest agent p c, s.env.agenda = .started agent (.setup p c) :: rest → 5#3 ≤ c →
      step s = .refused (.badCodeSet c))

/-- R273 (also R104, R105, R107, R108): the whole next state, so everything not written there is unchanged. -/
def Obligations.BadStartAndBadStopReaction : Prop :=
  (∀ (s : State) (w : AtFrame) (a : Action), s.setupDone = true → s.proto = .atPs2 →
      w.getLsbD 0 ≠ s.framing.atStart →
      exec (.rxAt w a) s = .next ((((s.emitDiag (.frameError .badStart (.at11 w))).emitSesctl .reset).emitRcvctl .restart).answer .none) ∧
      exec (.rxAtBadStart w) s = .next ((((s.emitDiag (.frameError .badStart (.at11 w))).emitSesctl .reset).emitRcvctl .restart).answer .none)) ∧
    (∀ (s : State) (w : AtFrame) (a : Action), s.setupDone = true → s.proto = .atPs2 →
      w.getLsbD 0 = s.framing.atStart → w.getLsbD 10 ≠ s.framing.atStop →
      exec (.rxAt w a) s = .next ((((s.emitDiag (.frameError .badStop (.at11 w))).emitSesctl .reset).emitRcvctl .restart).answer .none) ∧
      exec (.rxAtBadStop w) s = .next ((((s.emitDiag (.frameError .badStop (.at11 w))).emitSesctl .reset).emitRcvctl .restart).answer .none)) ∧
    (∀ (s : State) (w : XtFrame) (a : Action), s.setupDone = true → s.proto = .xt →
      w.getLsbD 0 ≠ s.framing.xtStart →
      exec (.rxXt w a) s = .next ((((s.emitDiag (.frameError .badStart (.xt9 w))).emitSesctl .reset).emitRcvctl .restart).answer .none) ∧
      exec (.rxXtBadStart w) s = .next ((((s.emitDiag (.frameError .badStart (.xt9 w))).emitSesctl .reset).emitRcvctl .restart).answer .none))

/-- R274: the whole next state, so everything not written there is unchanged. The default is the one the rule names. -/
def Obligations.BadParityReaction : Prop :=
  (∀ (s : State) (w : AtFrame) (a : Action), s.setupDone = true → s.proto = .atPs2 →
      w.getLsbD 0 = s.framing.atStart → w.getLsbD 10 = s.framing.atStop →
      w.getLsbD 9 ≠ par (w.extractLsb' 1 8) →
      exec (.rxAt w a) s = .next (((s.emitDiag (.frameError .badParity (.at11 w))).emitTx (txWord s.framing.cmdResend)).answer .none) ∧
      exec (.rxAtBadParity w) s = .next (((s.emitDiag (.frameError .badParity (.at11 w))).emitTx (txWord s.framing.cmdResend)).answer .none)) ∧
    (∀ (s t : State) (w : XtFrame) (a : Action), exec (.rxXt w a) s = .next t →
      t.out.diag = s.out.diag ∨ ∃ d, t.out.diag = s.out.diag ++ [d] ∧ diagCode d ≠ 1) ∧
    txWord Config.framing.cmdResend = 0x0FE#9

/-- R105, R106, R232, R233: the whole next state for each answer. -/
def Obligations.ValidatedAtByteRouted : Prop :=
  ∀ (s : State) (w : AtFrame), s.setupDone = true → s.proto = .atPs2 →
    w.getLsbD 0 = s.framing.atStart → w.getLsbD 10 = s.framing.atStop → w.getLsbD 9 = par (w.extractLsb' 1 8) →
    (∀ c, exec (.rxAt w (.sendCommand c)) s = .next (((s.ask (.onByte (w.extractLsb' 1 8))).emitTx (txWord c)).answer .none) ∧
      exec (.rxAtOk w (.sendCommand c)) s = .next (((s.ask (.onByte (w.extractLsb' 1 8))).emitTx (txWord c)).answer .none)) ∧
    (exec (.rxAt w .none) s = .next ((s.ask (.onByte (w.extractLsb' 1 8))).answer .none) ∧
      exec (.rxAtOk w .none) s = .next ((s.ask (.onByte (w.extractLsb' 1 8))).answer .none)) ∧
    (s.rb.head + 1#5 ≠ s.rb.tail →
      exec (.rxAt w .enqueueForDecoding) s = .next ((((s.ask (.onByte (w.extractLsb' 1 8))).putSlot s.rb.head (w.extractLsb' 1 8)).setHead (s.rb.head + 1#5)).answer .none) ∧
      exec (.rxAtOk w .enqueueForDecoding) s = .next ((((s.ask (.onByte (w.extractLsb' 1 8))).putSlot s.rb.head (w.extractLsb' 1 8)).setHead (s.rb.head + 1#5)).answer .none)) ∧
    (s.rb.head + 1#5 = s.rb.tail →
      exec (.rxAt w .enqueueForDecoding) s = .next (((s.ask (.onByte (w.extractLsb' 1 8))).emitDiag (.bufferOverflow (w.extractLsb' 1 8))).answer .none) ∧
      exec (.rxAtOk w .enqueueForDecoding) s = .next (((s.ask (.onByte (w.extractLsb' 1 8))).emitDiag (.bufferOverflow (w.extractLsb' 1 8))).answer .none))

/-- R108: the whole next state for each of the two answers the contract of the session allows in XT mode (R254c). -/
def Obligations.ValidatedXtByteRouted : Prop :=
  ∀ (s : State) (w : XtFrame), s.setupDone = true → s.proto = .xt → w.getLsbD 0 = s.framing.xtStart →
    (exec (.rxXt w .none) s = .next ((s.ask (.onByte (w.extractLsb' 1 8))).answer .none) ∧
      exec (.rxXtOk w .none) s = .next ((s.ask (.onByte (w.extractLsb' 1 8))).answer .none)) ∧
    (s.rb.head + 1#5 ≠ s.rb.tail →
      exec (.rxXt w .enqueueForDecoding) s = .next ((((s.ask (.onByte (w.extractLsb' 1 8))).putSlot s.rb.head (w.extractLsb' 1 8)).setHead (s.rb.head + 1#5)).answer .none) ∧
      exec (.rxXtOk w .enqueueForDecoding) s = .next ((((s.ask (.onByte (w.extractLsb' 1 8))).putSlot s.rb.head (w.extractLsb' 1 8)).setHead (s.rb.head + 1#5)).answer .none)) ∧
    (s.rb.head + 1#5 = s.rb.tail →
      exec (.rxXt w .enqueueForDecoding) s = .next (((s.ask (.onByte (w.extractLsb' 1 8))).emitDiag (.bufferOverflow (w.extractLsb' 1 8))).answer .none) ∧
      exec (.rxXtOk w .enqueueForDecoding) s = .next (((s.ask (.onByte (w.extractLsb' 1 8))).emitDiag (.bufferOverflow (w.extractLsb' 1 8))).answer .none))

/-- U7: a model that prefers totality may treat the answer as None. This is the choice of the model (log entry 12). -/
def Obligations.XtCommandAnswerCountsAsNone : Prop :=
  ∀ (s : State) (w : XtFrame) (c : Byte), s.setupDone = true → s.proto = .xt → w.getLsbD 0 = s.framing.xtStart →
    ∃ t : State, exec (.rxXt w (.sendCommand c)) s = .next t ∧ exec (.rxXtOk w (.sendCommand c)) s = .next t ∧
      exec (.rxXt w .none) s = .next t ∧ t.out.tx = s.out.tx ∧ t.rb = s.rb

/-- R76, R77 against R104, R105, R107, R108: the class tables and the operations agree, in every state. -/
def Obligations.ReceiveIsItsFrameClass : Prop :=
  (∀ (s : State) (w : AtFrame) (a : Action), exec (.rxAt w a) s = exec (classifyAt s.framing w a) s) ∧
    (∀ (s : State) (w : XtFrame) (a : Action), exec (.rxXt w a) s = exec (classifyXt s.framing w a) s)

/-- The refusal under the other protocol is the choice of the model (log entry 14). R105 and R108 say only for which words each operation is executed. -/
def Obligations.FrameOperationsOnlyUnderTheirProtocol : Prop :=
  ∀ s : State, s.setupDone = true →
    (s.proto = .xt → ∀ w a, exec (.rxAt w a) s = .refused .wrongProtocol ∧ exec (.rxAtBadStart w) s = .refused .wrongProtocol ∧
      exec (.rxAtBadStop w) s = .refused .wrongProtocol ∧ exec (.rxAtBadParity w) s = .refused .wrongProtocol ∧
      exec (.rxAtOk w a) s = .refused .wrongProtocol) ∧
    (s.proto = .atPs2 → ∀ w a, exec (.rxXt w a) s = .refused .wrongProtocol ∧
      exec (.rxXtBadStart w) s = .refused .wrongProtocol ∧ exec (.rxXtOk w a) s = .refused .wrongProtocol)

/-- R121, R122: the whole next state. -/
def Obligations.RingQueriesAnswerTheIndices : Prop :=
  ∀ s : State, s.setupDone = true →
    exec .rbIsEmpty s = .next (s.answer (.flag (decide (s.rb.head = s.rb.tail)))) ∧
    exec .rbIsFull s = .next (s.answer (.flag (decide ((s.rb.head.toNat + 1) % 32 = s.rb.tail.toNat))))

/-- R27. -/
def Obligations.EmptyAndFullNeverTogether : Prop :=
  (∀ s : State, (rbEmpty s = true ↔ s.rb.head = s.rb.tail) ∧
      (rbFull s = true ↔ (s.rb.head.toNat + 1) % 32 = s.rb.tail.toNat) ∧ ¬(rbEmpty s = true ∧ rbFull s = true)) ∧
    (∀ s : State, s.setupDone = true → (∃ t, exec .rbIsEmpty s = .next t ∧ t.result = .flag (rbEmpty s)) ∧
      ∃ t, exec .rbIsFull s = .next t ∧ t.result = .flag (rbFull s)) ∧
    (∀ (s : State) (p : Proto) (c : CodeSet), ∃ t, exec (.setup p c) s = .next t ∧ rbEmpty t = true ∧ rbFull t = false)

/-- R124, R276: the whole next state in each case, and the flags. -/
def Obligations.PutAcceptsUnlessFull : Prop :=
  ∀ (s : State) (b : Byte), s.setupDone = true →
    ((s.rb.head.toNat + 1) % 32 ≠ s.rb.tail.toNat →
      exec (.rbPut b) s = .next (((s.putSlot s.rb.head b).setHead (s.rb.head + 1#5)).answer (.put true)) ∧
      rbEmpty (((s.putSlot s.rb.head b).setHead (s.rb.head + 1#5)).answer (.put true)) = false ∧
      (rbFull (((s.putSlot s.rb.head b).setHead (s.rb.head + 1#5)).answer (.put true)) = true ↔ rbCount s = 30)) ∧
    ((s.rb.head.toNat + 1) % 32 = s.rb.tail.toNat →
      rbCount s = 31 ∧ exec (.rbPut b) s = .next ((s.emitDiag (.bufferOverflow b)).answer (.put false)))

/-- R125, U2, U3; how a free byte is counted is a device of the model (log entries 5 and 18). -/
def Obligations.GetTakesTheSlotAtTail : Prop :=
  ∀ s : State, s.setupDone = true →
    (s.rb.head = s.rb.tail → ∃ v, exec .rbGet s = .next (s.useFree.answer (.got v false))) ∧
    (s.rb.head ≠ s.rb.tail → s.env.preempts = [] →
      (∀ v, Memory.read s.rb.buf s.rb.tail.toNat = some v →
        exec .rbGet s = .next ((s.setTail (s.rb.tail + 1#5)).answer (.got v true))) ∧
      (Memory.read s.rb.buf s.rb.tail.toNat = none →
        ∃ v, exec .rbGet s = .next ((s.useFree.setTail (s.rb.tail + 1#5)).answer (.got v true))))

/-- R10, R56, R125, R231, R280: every interleaving of whole producer operations with the micro-steps of RB.GET. R125 gives the boundary between C1 and C2; that one more lies after the test is the reading of the model (log entry 24, DEDUCED). The schedule, its two entries and their sum are its device (log entry 8, DESIGN CHOICE), no state of the spec, as is the field result (log entry 9). -/
def Obligations.GetUnderInterleaving : Prop :=
  ∀ (s : State) (v : Byte), s.setupDone = true → s.rb.head ≠ s.rb.tail →
    Memory.read s.rb.buf s.rb.tail.toNat = some v →
    ∃ (t : State) (put : List Byte), exec .rbGet s = .next t ∧ t.result = .got v true ∧
      t.rb.tail = s.rb.tail + 1#5 ∧ held s ++ put = v :: held t ∧
      t.rb.head = s.rb.head + BitVec.ofNat 5 put.length ∧ t.dec = s.dec ∧ t.out.hid = s.out.hid ∧ t.proto = s.proto ∧ t.framing = s.framing ∧ t.tables = s.tables ∧
      t.irqEn = s.irqEn ∧ t.env.agenda = s.env.agenda ∧
      (∃ tested taken : State, atBoundary s = .next tested ∧ atBoundary tested = .next taken ∧
        t = (taken.setTail (s.rb.tail + 1#5)).answer (.got v true)) ∧
      t.env.preempts = s.env.preempts.drop 2 ∧
      (s.irqEn = false → t.rb.head = s.rb.head ∧ t.rb.buf = s.rb.buf ∧ t.env.rcv = s.env.rcv ∧ t.out = s.out) ∧
      (s.irqEn = true → t.env.rcv = s.env.rcv.drop (s.env.preempts.take 2).sum)

/-- R126, U4: the whole next state, and the refusal. -/
def Obligations.RingResetNeedsQuiescence : Prop :=
  ∀ s : State, s.setupDone = true →
    (s.irqEn = false ∨ s.env.rcv = [] → exec .rbReset s = .next (((s.setHead 0#5).setTail 0#5).answer .none) ∧
      rbEmpty (((s.setHead 0#5).setTail 0#5).answer .none) = true ∧ rbFull (((s.setHead 0#5).setTail 0#5).answer .none) = false ∧
      rbCount (((s.setHead 0#5).setTail 0#5).answer .none) = 0) ∧
    (s.irqEn = true → s.env.rcv ≠ [] → exec .rbReset s = .refused .producerNotQuiescent)

/-- R28: the live range holds, oldest first, exactly the bytes put and not yet got. -/
def Obligations.PutAppendsToHeldBytes : Prop :=
  ∀ (s t : State) (b : Byte), exec (.rbPut b) s = .next t →
    (rbFull s = false → held t = held s ++ [b]) ∧ (rbFull s = true → held t = held s) ∧
      ∀ a : Nat, a ≠ s.rb.head.toNat → Memory.read t.rb.buf a = Memory.read s.rb.buf a

/-- The first sentence of R127. -/
def Obligations.PutsThenGetsReturnTheBytes : Prop :=
  ∀ (s : State) (l : List Byte), s.setupDone = true → s.env.preempts = [] → rbEmpty s = true → l.length ≤ 31 →
    ∃ u t : State, putAll l s = .next u ∧ getAll l.length u = .next (t, l.map fun b => .got b true)

/-- R128, with R301 for its reset state: the state after SETUP, with any operands. -/
def Obligations.OverflowRejectsThe32ndPut : Prop :=
  (∀ (s : State) (p : Proto) (c : CodeSet), ∃ t : State, exec (.setup p c) s = .next t ∧ t.setupDone = true ∧
      t.rb.head = 0#5 ∧ t.rb.tail = 0#5 ∧ t.env = s.env) ∧
    ∀ (s : State) (l : List Byte) (b : Byte), s.setupDone = true → s.rb.head = 0#5 → s.rb.tail = 0#5 →
      s.env.preempts = [] → l.length = 31 →
      ∃ u t v : State, putAll l s = .next u ∧ u.rb.head = 31#5 ∧ u.rb.tail = 0#5 ∧
        exec (.rbPut b) u = .next t ∧ t.result = .put false ∧ t.rb = u.rb ∧
        t.out.diag = u.out.diag ++ [.bufferOverflow b] ∧
        getAll 31 t = .next (v, l.map fun b => .got b true)

/-- R123, R129. -/
def Obligations.FillLevelConserved : Prop :=
  ∀ s : State, rbCount s ≤ 31 ∧
    (∀ b t, exec (.rbPut b) s = .next t → (t.result = .put true ∧ rbCount t = rbCount s + 1) ∨
      (t.result = .put false ∧ rbCount s = 31 ∧ rbCount t = 31)) ∧
    (∀ t, s.env.preempts = [] → exec .rbGet s = .next t → (∃ v, t.result = .got v true ∧ rbCount t + 1 = rbCount s) ∨
      (∃ v, t.result = .got v false ∧ rbCount s = 0 ∧ rbCount t = 0))

/-- R150 (with R151 to R165): the whole next state of each row. -/
def Obligations.Set1BytesDecode : Prop :=
  ∀ s : State, s.setupDone = true →
    (s.dec = .set1 .init → feedsTo s .s1InitOnE0 0xE0#8 (.set1 .e0) none) ∧
    (s.dec = .set1 .init → feedsTo s .s1InitOnE1 0xE1#8 (.set1 .e1) none) ∧
    (∀ b : Byte, s.dec = .set1 .init → b ≠ 0xE0#8 → b ≠ 0xE1#8 → b < 0x80#8 → feedsTo s (.s1InitOnMake b) b (.set1 .init) (some { code := b, make := true })) ∧
    (∀ b : Byte, s.dec = .set1 .init → b ≠ 0xE0#8 → b ≠ 0xE1#8 → ¬b < 0x80#8 → feedsTo s (.s1InitOnBreak b) b (.set1 .init) (some { code := b &&& 0x7F#8, make := false })) ∧
    (∀ b : Byte, s.dec = .set1 .e0 → b < 0x80#8 → feedsTo s (.s1E0OnMake b) b (.set1 .init) (if tableGet s.tables.set1E0 b = 0#8 then none else some { code := tableGet s.tables.set1E0 b, make := true })) ∧
    (∀ b : Byte, s.dec = .set1 .e0 → ¬b < 0x80#8 → feedsTo s (.s1E0OnBreak b) b (.set1 .init) (if tableGet s.tables.set1E0 (b &&& 0x7F#8) = 0#8 then none else some { code := tableGet s.tables.set1E0 (b &&& 0x7F#8), make := false })) ∧
    (s.dec = .set1 .e1 → feedsTo s .s1E1On1d 0x1D#8 (.set1 .e1x1D) none) ∧
    (s.dec = .set1 .e1 → feedsTo s .s1E1On9d 0x9D#8 (.set1 .e1x9D) none) ∧
    (∀ b : Byte, s.dec = .set1 .e1 → b ≠ 0x1D#8 → b ≠ 0x9D#8 → feedRejected s (.s1E1OnOther b) b (.set1 .init)) ∧
    (s.dec = .set1 .e1x1D → feedsTo s .s1E1x1DOn45 0x45#8 (.set1 .init) (some { code := s.tables.set1Pause, make := true })) ∧
    (∀ b : Byte, s.dec = .set1 .e1x1D → b ≠ 0x45#8 → feedRejected s (.s1E1x1DOnOther b) b (.set1 .init)) ∧
    (s.dec = .set1 .e1x9D → feedsTo s .s1E1x9DOnC5 0xC5#8 (.set1 .init) (some { code := s.tables.set1Pause, make := false })) ∧
    (∀ b : Byte, s.dec = .set1 .e1x9D → b ≠ 0xC5#8 → feedRejected s (.s1E1x9DOnOther b) b (.set1 .init))

/-- R170 (with R171 to R197): the whole next state of each row. -/
def Obligations.Set2BytesDecode : Prop :=
  ∀ s : State, s.setupDone = true →
    (s.dec = .set2 .init → feedsTo s .s2InitOnE0 0xE0#8 (.set2 .e0) none) ∧
    (s.dec = .set2 .init → feedsTo s .s2InitOnF0 0xF0#8 (.set2 .f0) none) ∧
    (s.dec = .set2 .init → feedsTo s .s2InitOnE1 0xE1#8 (.set2 .e1) none) ∧
    (s.dec = .set2 .init → feedsTo s .s2InitOnA83 0x83#8 (.set2 .init) (some { code := s.tables.set2Alias83, make := true })) ∧
    (s.dec = .set2 .init → feedsTo s .s2InitOnA84 0x84#8 (.set2 .init) (some { code := s.tables.set2Alias84, make := true })) ∧
    (∀ b : Byte, s.dec = .set2 .init → b ≠ 0xE0#8 → b ≠ 0xF0#8 → b ≠ 0xE1#8 → b ≠ 0x83#8 → b ≠ 0x84#8 → b < 0x80#8 → feedsTo s (.s2InitOnMake b) b (.set2 .init) (some { code := b, make := true })) ∧
    (∀ b : Byte, s.dec = .set2 .init → b ≠ 0xE0#8 → b ≠ 0xF0#8 → b ≠ 0xE1#8 → b ≠ 0x83#8 → b ≠ 0x84#8 → ¬b < 0x80#8 → feedRejected s (.s2InitOnOther b) b (.set2 .init)) ∧
    (s.dec = .set2 .f0 → feedsTo s .s2F0OnA83 0x83#8 (.set2 .init) (some { code := s.tables.set2Alias83, make := false })) ∧
    (s.dec = .set2 .f0 → feedsTo s .s2F0OnA84 0x84#8 (.set2 .init) (some { code := s.tables.set2Alias84, make := false })) ∧
    (∀ b : Byte, s.dec = .set2 .f0 → b ≠ 0x83#8 → b ≠ 0x84#8 → b < 0x80#8 → feedsTo s (.s2F0OnBreak b) b (.set2 .init) (some { code := b, make := false })) ∧
    (∀ b : Byte, s.dec = .set2 .f0 → b ≠ 0x83#8 → b ≠ 0x84#8 → ¬b < 0x80#8 → feedRejected s (.s2F0OnOther b) b (.set2 .init)) ∧
    (s.dec = .set2 .e0 → feedsTo s .s2E0OnF0 0xF0#8 (.set2 .e0F0) none) ∧
    (∀ b : Byte, s.dec = .set2 .e0 → b ≠ 0xF0#8 → b < 0x80#8 → feedsTo s (.s2E0OnKey b) b (.set2 .init) (if tableGet s.tables.set2E0 b = 0#8 then none else some { code := tableGet s.tables.set2E0 b, make := true })) ∧
    (∀ b : Byte, s.dec = .set2 .e0 → b ≠ 0xF0#8 → ¬b < 0x80#8 → feedRejected s (.s2E0OnOther b) b (.set2 .init)) ∧
    (∀ b : Byte, s.dec = .set2 .e0F0 → b < 0x80#8 → feedsTo s (.s2E0F0OnKey b) b (.set2 .init) (if tableGet s.tables.set2E0 b = 0#8 then none else some { code := tableGet s.tables.set2E0 b, make := false })) ∧
    (∀ b : Byte, s.dec = .set2 .e0F0 → ¬b < 0x80#8 → feedRejected s (.s2E0F0OnOther b) b (.set2 .init)) ∧
    (s.dec = .set2 .e1 → feedsTo s .s2E1On14 0x14#8 (.set2 .e1x14) none) ∧
    (s.dec = .set2 .e1 → feedsTo s .s2E1OnF0 0xF0#8 (.set2 .e1F0) none) ∧
    (∀ b : Byte, s.dec = .set2 .e1 → b ≠ 0x14#8 → b ≠ 0xF0#8 → feedRejected s (.s2E1OnOther b) b (.set2 .init)) ∧
    (s.dec = .set2 .e1x14 → feedsTo s .s2E1x14On77 0x77#8 (.set2 .init) (some { code := s.tables.set2Pause, make := true })) ∧
    (∀ b : Byte, s.dec = .set2 .e1x14 → b ≠ 0x77#8 → feedRejected s (.s2E1x14OnOther b) b (.set2 .init)) ∧
    (s.dec = .set2 .e1F0 → feedsTo s .s2E1F0On14 0x14#8 (.set2 .e1F0x14) none) ∧
    (∀ b : Byte, s.dec = .set2 .e1F0 → b ≠ 0x14#8 → feedRejected s (.s2E1F0OnOther b) b (.set2 .init)) ∧
    (s.dec = .set2 .e1F0x14 → feedsTo s .s2E1F0x14OnF0 0xF0#8 (.set2 .e1F0x14F0) none) ∧
    (∀ b : Byte, s.dec = .set2 .e1F0x14 → b ≠ 0xF0#8 → feedRejected s (.s2E1F0x14OnOther b) b (.set2 .init)) ∧
    (s.dec = .set2 .e1F0x14F0 → feedsTo s .s2E1F0x14F0On77 0x77#8 (.set2 .init) (some { code := s.tables.set2Pause, make := false })) ∧
    (∀ b : Byte, s.dec = .set2 .e1F0x14F0 → b ≠ 0x77#8 → feedRejected s (.s2E1F0x14F0OnOther b) b (.set2 .init))

/-- R200 (with R201 to R207): the whole next state of each row; the constraint of R208 on the pairs is a premise. -/
def Obligations.Set3BytesDecode : Prop :=
  ∀ s : State, s.setupDone = true → s.tables.wf = true →
    (s.dec = .set3 .init → feedsTo s .s3InitOnF0 0xF0#8 (.set3 .f0) none) ∧
    (∀ b : Byte, s.dec = .set3 .init → b ≠ 0xF0#8 → (b = s.tables.set3Remap.first.1 → feedsTo s (.s3InitOnRemap b) b (.set3 .init) (some { code := s.tables.set3Remap.first.2, make := true })) ∧ (b = s.tables.set3Remap.second.1 → feedsTo s (.s3InitOnRemap b) b (.set3 .init) (some { code := s.tables.set3Remap.second.2, make := true })) ∧ (b = s.tables.set3Remap.third.1 → feedsTo s (.s3InitOnRemap b) b (.set3 .init) (some { code := s.tables.set3Remap.third.2, make := true }))) ∧
    (∀ b : Byte, s.dec = .set3 .init → b ≠ 0xF0#8 → s.tables.set3Remap.hasFrom b = false → b < 0x80#8 → feedsTo s (.s3InitOnMake b) b (.set3 .init) (some { code := b, make := true })) ∧
    (∀ b : Byte, s.dec = .set3 .init → b ≠ 0xF0#8 → s.tables.set3Remap.hasFrom b = false → ¬b < 0x80#8 → feedRejected s (.s3InitOnOther b) b (.set3 .init)) ∧
    (∀ b : Byte, s.dec = .set3 .f0 → (b = s.tables.set3Remap.first.1 → feedsTo s (.s3F0OnRemap b) b (.set3 .init) (some { code := s.tables.set3Remap.first.2, make := false })) ∧ (b = s.tables.set3Remap.second.1 → feedsTo s (.s3F0OnRemap b) b (.set3 .init) (some { code := s.tables.set3Remap.second.2, make := false })) ∧ (b = s.tables.set3Remap.third.1 → feedsTo s (.s3F0OnRemap b) b (.set3 .init) (some { code := s.tables.set3Remap.third.2, make := false }))) ∧
    (∀ b : Byte, s.dec = .set3 .f0 → s.tables.set3Remap.hasFrom b = false → b < 0x80#8 → feedsTo s (.s3F0OnBreak b) b (.set3 .init) (some { code := b, make := false })) ∧
    (∀ b : Byte, s.dec = .set3 .f0 → s.tables.set3Remap.hasFrom b = false → ¬b < 0x80#8 → feedRejected s (.s3F0OnOther b) b (.set3 .init))

/-- R210 (with R211, R212): the whole next state of each row. -/
def Obligations.AmigaBytesDecode : Prop :=
  ∀ s : State, s.setupDone = true →
    (∀ b : Byte, s.dec = .amiga .init → b.toNat % 128 ≤ s.tables.amigaMaxKey.toNat → feedsTo s (.amInitOnKey b) b (.amiga .init) (some { code := b &&& 0x7F#8, make := decide (b < 0x80#8) })) ∧
    (∀ b : Byte, s.dec = .amiga .init → s.tables.amigaMaxKey.toNat < b.toNat % 128 → feedRejected s (.amInitOnReject b) b (.amiga .init))

/-- R215 (with R216 to R226): the whole next state of each row. -/
def Obligations.M0110BytesDecode : Prop :=
  ∀ s : State, s.setupDone = true →
    (∀ b : Byte, s.dec = .m0110 .init → b.getLsbD 0 = false → feedRejected s (.m0InitOnBad0 b) b (.m0110 .init)) ∧
    (s.dec = .m0110 .init → feedsTo s .m0InitOnP79 0x79#8 (.m0110 .p79) none) ∧
    (s.dec = .m0110 .init → feedsTo s .m0InitOnP71 0x71#8 (.m0110 .p71) none) ∧
    (∀ b : Byte, s.dec = .m0110 .init → b.getLsbD 0 = true → b ≠ 0x79#8 → b ≠ 0x71#8 → feedsTo s (.m0InitOnKey b) b (.m0110 .init) (some { code := (b &&& 0x7E#8) >>> 1, make := decide (b < 0x80#8) })) ∧
    (∀ b : Byte, s.dec = .m0110 .p79 → b.getLsbD 0 = false → feedRejected s (.m0P79OnBad0 b) b (.m0110 .init)) ∧
    (∀ b : Byte, s.dec = .m0110 .p79 → b.getLsbD 0 = true → feedsTo s (.m0P79OnKey b) b (.m0110 .init) (if tableGet s.tables.m0110Map79 (b.extractLsb' 1 6) = 0#8 then none else some { code := tableGet s.tables.m0110Map79 (b.extractLsb' 1 6), make := decide (b < 0x80#8) })) ∧
    (∀ b : Byte, s.dec = .m0110 .p71 → b.getLsbD 0 = false → feedRejected s (.m0P71OnBad0 b) b (.m0110 .init)) ∧
    (s.dec = .m0110 .p71 → feedsTo s .m0P71On79 0x79#8 (.m0110 .p71x79) none) ∧
    (∀ b : Byte, s.dec = .m0110 .p71 → b.getLsbD 0 = true → b ≠ 0x79#8 → feedRejected s (.m0P71OnOther b) b (.m0110 .init)) ∧
    (∀ b : Byte, s.dec = .m0110 .p71x79 → b.getLsbD 0 = false → feedRejected s (.m0P71x79OnBad0 b) b (.m0110 .init)) ∧
    (∀ b : Byte, s.dec = .m0110 .p71x79 → b.getLsbD 0 = true → feedsTo s (.m0P71x79OnKey b) b (.m0110 .init) (if tableGet s.tables.m0110Map7179 (b.extractLsb' 1 6) = 0#8 then none else some { code := tableGet s.tables.m0110Map7179 (b.extractLsb' 1 6), make := decide (b < 0x80#8) }))

/-- R86: the operation DEC.FEED(b) in state S is the class that b falls in. Holds in every state. -/
def Obligations.FeedIsItsByteClass : Prop :=
  ∀ (s : State) (b : Byte), exec (.decFeed b) s = exec (classifyScan s.tables s.dec b) s

/-- R86: a row applies only in its code set and state and if no earlier row matched. The refusal elsewhere is the choice of the model (log entry 14). -/
def Obligations.ByteClassRunsExactlyWhereItApplies : Prop :=
  ∀ (s : State) (i : Instr) (b : Byte), s.setupDone = true → encode i = .scan b →
    ((∃ t, exec i s = .next t) ↔ decode s.context (.scan b) = .ok i) ∧
      (decode s.context (.scan b) ≠ .ok i → exec i s = .refused .classNotSelected)

/-- R140, R141, R142, R146, R275. -/
def Obligations.FeedTouchesOnlyTheDecoder : Prop :=
  ∀ (s : State) (b : Byte), s.setupDone = true → ∃ (d : DecState) (e : Option KeyEvent),
    d.codeSet = s.codeSet ∧
    (exec (.decFeed b) s = .next ((s.setDec d).answer (.fed e)) ∨
      (exec (.decFeed b) s = .next (((s.emitDiag (.sequenceError s.dec b)).setDec d).answer (.fed none)) ∧
        d = DecState.initOf s.codeSet ∧ e = none))

/-- R143: no sequence is longer than five bytes, so at most four further prefix bytes are absorbed before a step ends in INIT. -/
def Obligations.SequencesEndWithinFiveBytes : Prop :=
  ∀ (tb : Tables) (d : DecState) (b₁ b₂ b₃ b₄ b₅ : Byte),
    let d₁ := (stepDecoder tb d b₁).next
    let d₂ := (stepDecoder tb d₁ b₂).next
    let d₃ := (stepDecoder tb d₂ b₃).next
    let d₄ := (stepDecoder tb d₃ b₄).next
    let d₅ := (stepDecoder tb d₄ b₅).next
    d₁ = DecState.initOf d.codeSet ∨ d₂ = DecState.initOf d.codeSet ∨ d₃ = DecState.initOf d.codeSet ∨
      d₄ = DecState.initOf d.codeSet ∨ d₅ = DecState.initOf d.codeSet

/-- R82. -/
def Obligations.PauseSequencesGiveOneEventPerHalf : Prop :=
  ∀ tb : Tables,
    decodedEvents tb (.set1 .init) [0xE1#8, 0x1D#8] = [] ∧
    decodedEvents tb (.set1 .init) [0xE1#8, 0x1D#8, 0x45#8] = [{ code := tb.set1Pause, make := true }] ∧
    decodedEvents tb (.set1 .init) [0xE1#8, 0x9D#8] = [] ∧
    decodedEvents tb (.set1 .init) [0xE1#8, 0x9D#8, 0xC5#8] = [{ code := tb.set1Pause, make := false }] ∧
    decodedEvents tb (.set2 .init) [0xE1#8, 0x14#8] = [] ∧
    decodedEvents tb (.set2 .init) [0xE1#8, 0x14#8, 0x77#8] = [{ code := tb.set2Pause, make := true }] ∧
    decodedEvents tb (.set2 .init) [0xE1#8, 0xF0#8, 0x14#8, 0xF0#8] = [] ∧
    decodedEvents tb (.set2 .init) [0xE1#8, 0xF0#8, 0x14#8, 0xF0#8, 0x77#8] = [{ code := tb.set2Pause, make := false }]

/-- R158. -/
def Obligations.FakeShiftSuppressed : Prop :=
  ∀ tb : Tables, tb.wf = true →
    tableGet tb.set1E0 0x1D#8 ≠ 0#8 ∧ tableGet tb.set1E0 0x2A#8 = 0#8 ∧
    decodedEvents tb (.set1 .init) [0xE0#8, 0x1D#8] = [{ code := tableGet tb.set1E0 0x1D#8, make := true }] ∧
    decodedEvents tb (.set1 .init) [0xE0#8, 0x2A#8] = []

/-- R235, R236, R237, R238: the whole next state in each case. -/
def Obligations.TaskIterUndisturbed : Prop :=
  ∀ (s : State) (now : Nat), s.setupDone = true → s.env.preempts = [] →
    exec (.taskIter now false) s = .next (((s.ask .hidReady).ask (.onTick now)).answer .none) ∧
    (s.rb.head = s.rb.tail → exec (.taskIter now true) s = .next (((s.ask .hidReady).ask (.onTick now)).answer .none)) ∧
    (∀ v, s.rb.head ≠ s.rb.tail → Memory.read s.rb.buf s.rb.tail.toNat = some v →
      exec (.taskIter now true) s =
        match (stepDecoder s.tables s.dec v).event with
        | none => .next (((feed v ((s.ask .hidReady).setTail (s.rb.tail + 1#5))).ask (.onTick now)).answer .none)
        | some ev =>
          .next ((((feed v ((s.ask .hidReady).setTail (s.rb.tail + 1#5))).emitHid ev).ask (.onTick now)).answer .none))

/-- R10, R231, R236, R238, R239, R280: every interleaving of whole producer operations with the micro-steps of TASK.ITER. Where the boundaries lie, and so that a byte drained has six of them and a seventh before an event is delivered, is the reading of the model (log entry 24, DEDUCED). The schedule and the counts of its entries are its device (log entry 8, DESIGN CHOICE), no state of the spec. -/
def Obligations.TaskIterUnderInterleaving : Prop :=
  ∀ (s : State) (now : Nat), s.setupDone = true →
    (∀ ready, ∃ (t : State) (es : List KeyEvent), exec (.taskIter now ready) s = .next t ∧
      (t.rb.tail = s.rb.tail ∨ t.rb.tail = s.rb.tail + 1#5) ∧ t.out.hid = s.out.hid ++ es ∧ es.length ≤ 1 ∧
      (s.irqEn = false → t.rb.head = s.rb.head ∧ t.rb.buf = s.rb.buf ∧ t.env.rcv = s.env.rcv ∧ t.out.tx = s.out.tx ∧
        t.out.rcvctl = s.out.rcvctl ∧ t.out.sesctl = s.out.sesctl ∧ t.out.asks = s.out.asks ++ [.hidReady, .onTick now])) ∧
    (∀ v, s.rb.head ≠ s.rb.tail → Memory.read s.rb.buf s.rb.tail.toNat = some v →
      ∃ (t : State) (put : List Byte), exec (.taskIter now true) s = .next t ∧
        t.rb.tail = s.rb.tail + 1#5 ∧ t.dec = (stepDecoder s.tables s.dec v).next ∧
        t.out.hid = s.out.hid ++ (stepDecoder s.tables s.dec v).event.toList ∧
        held s ++ put = v :: held t ∧
        t.rb.head = s.rb.head + BitVec.ofNat 5 put.length ∧ t.proto = s.proto ∧ t.tables = s.tables ∧ t.framing = s.framing ∧
        t.env.preempts = s.env.preempts.drop (6 + (stepDecoder s.tables s.dec v).event.toList.length) ∧
        (s.irqEn = false → t.out.diag = (feed v s).out.diag) ∧
        (s.irqEn = true → t.env.rcv =
          s.env.rcv.drop (s.env.preempts.take (6 + (stepDecoder s.tables s.dec v).event.toList.length)).sum)) ∧
    (s.rb.head = s.rb.tail → ∃ asked t : State, atBoundary (s.ask .hidReady) = .next asked ∧
      exec (.taskIter now true) s = .next t ∧
      (asked.rb.head = asked.rb.tail → t.rb.tail = s.rb.tail ∧ t.dec = s.dec ∧ t.out.hid = s.out.hid) ∧
      (asked.rb.head ≠ asked.rb.tail → ∃ v, Memory.read asked.rb.buf s.rb.tail.toNat = some v ∧
        t.rb.tail = s.rb.tail + 1#5 ∧ t.dec = (stepDecoder s.tables s.dec v).next ∧
        t.out.hid = s.out.hid ++ (stepDecoder s.tables s.dec v).event.toList)) ∧
    ∃ t : State, exec (.taskIter now false) s = .next t ∧ t.rb.tail = s.rb.tail ∧ t.dec = s.dec ∧ t.out.hid = s.out.hid ∧
      t.env.preempts = s.env.preempts.tail ∧
      (s.irqEn = true → t.env.rcv = s.env.rcv.drop (s.env.preempts.headD 0))

/-- R239, R241: hid is the sequence of results of folding the decoder over the bytes accepted, in order. -/
def Obligations.TaskIterKeepsPromisedEvents : Prop :=
  (∀ (s t : State) (now : Nat) (ready : Bool), s.env.preempts = [] → liveWritten s = true →
      exec (.taskIter now ready) s = .next t → promisedEvents t = promisedEvents s) ∧
    (∀ (s t : State) (b : Byte), exec (.rbPut b) s = .next t → promisedEvents s <+: promisedEvents t)

/-- R300 (and U5, U8): the whole next state, on any state. -/
def Obligations.SetupOverwritesAllButTheSlots : Prop :=
  (∀ (s : State) (p : Proto) (c : CodeSet),
      exec (.setup p c) s = .next { s with
        proto := p, setupDone := true, dec := DecState.initOf c, irqEn := true, result := .none
        rb := { buf := s.rb.buf, head := 0#5, tail := 0#5 } } ∧ (DecState.initOf c).codeSet = c) ∧
    (∀ (s : State) (rest : List Event) (p : BitVec 1) (c : BitVec 3), 5#3 ≤ c →
      s.env.agenda = .started .consumer (.setup p c) :: rest → step s = .refused (.badCodeSet c))

/-- R302. -/
def Obligations.NothingButSetupRunsBeforeSetup : Prop :=
  ∀ (s : State) (i : Instr), s.setupDone = false → (∀ p c, i ≠ .setup p c) → exec i s = .refused .beforeSetup

/-- R20, R33, R301. AT_PS2 and SET2 are the choice of the model (log entry 1), as is that SETUP has run (log entry 2). -/
def Obligations.ResetStateValues : Prop :=
  State.reset.rb.head = 0#5 ∧ State.reset.rb.tail = 0#5 ∧
    State.reset.dec = DecState.initOf State.reset.codeSet ∧ State.reset.irqEn = true ∧
    (∀ a, Memory.read State.reset.rb.buf a = none) ∧ status State.reset = 0b01#2 ∧
    State.reset.proto = .atPs2 ∧ State.reset.codeSet = .set2 ∧ State.reset.setupDone = true

/-- R28, R158, R208. The tables at reset are free but for these constraints (log entry 4). -/
def Obligations.ResetStateIsGood : Prop :=
  State.reset.good = true

/-- R28, R51, R52: the live range holds bytes that were put, and no access is out of range. -/
def Obligations.StepKeepsGoodState : Prop :=
  ∀ s t : State, s.good = true → step s = .next t → t.good = true

/-- R8, R61. -/
def Obligations.StepKeepsConfiguration : Prop :=
  ∀ s t : State, step s = .next t → t.framing = s.framing ∧ t.tables = s.tables ∧
    ((∀ p c rest, s.env.agenda ≠ .started .consumer (.setup p c) :: rest) → t.proto = s.proto ∧ t.codeSet = s.codeSet)

/-- R30: five append-only event streams; R300: SETUP does not clear them. -/
def Obligations.StreamsOnlyGrow : Prop :=
  ∀ s t : State, step s = .next t →
    s.out.tx <+: t.out.tx ∧ s.out.rcvctl <+: t.out.rcvctl ∧ s.out.sesctl <+: t.out.sesctl ∧
      s.out.hid <+: t.out.hid ∧ s.out.diag <+: t.out.diag ∧ s.out.asks <+: t.out.asks

/-- R108: no commands can be sent to an XT keyboard, so tx stays empty for the whole life of an XT instance. -/
def Obligations.XtInstanceTransmitsNothing : Prop :=
  ∀ s t : State, s.proto = .xt → step s = .next t → t.out.tx = s.out.tx

/-- R22, R234, R285. -/
def Obligations.ProducerKeepsToItsContext : Prop :=
  ∀ (i : Instr) (s t : State), i.agent = .producer → exec i s = .next t →
    t.rb.tail = s.rb.tail ∧ t.dec = s.dec ∧ t.out.hid = s.out.hid ∧ t.irqEn = s.irqEn ∧ t.env = s.env ∧
      t.proto = s.proto ∧ t.framing = s.framing ∧ t.tables = s.tables ∧ t.setupDone = s.setupDone ∧
      t.freeCount = s.freeCount ∧
      (t.out.asks = s.out.asks ∨ ∃ b, t.out.asks = s.out.asks ++ [.onByte b]) ∧
      (∀ a : Nat, a ≠ s.rb.head.toNat → Memory.read t.rb.buf a = Memory.read s.rb.buf a) ∧
      (t.rb.head = s.rb.head ∧ t.rb.buf = s.rb.buf ∨ t.rb.head = s.rb.head + 1#5)

/-- R22, R285. -/
def Obligations.ConsumerKeepsToItsContext : Prop :=
  ∀ (i : Instr) (s t : State), i.agent = .consumer → s.env.preempts = [] → exec i s = .next t →
    (∀ a : Nat, Memory.read t.rb.buf a = Memory.read s.rb.buf a) ∧
      t.out.tx = s.out.tx ∧ t.out.rcvctl = s.out.rcvctl ∧ t.out.sesctl = s.out.sesctl ∧
      t.framing = s.framing ∧ t.tables = s.tables ∧ t.env = s.env ∧
      (∀ b, Ask.onByte b ∈ t.out.asks → Ask.onByte b ∈ s.out.asks) ∧
      ((∀ p c, i ≠ .setup p c) → t.irqEn = s.irqEn ∧ t.proto = s.proto ∧ (i ≠ .rbReset → t.rb.head = s.rb.head)) ∧
      ((∀ p c, i ≠ .setup p c) → i ≠ .rbReset → i ≠ .rbGet → (∀ now r, i ≠ .taskIter now r) → t.rb.tail = s.rb.tail) ∧
      ((∀ now r, i ≠ .taskIter now r) → t.out.hid = s.out.hid ∧ t.out.asks = s.out.asks)

/-- R270, R271, R273 to R277. -/
def Obligations.RaiseRecordsThenReacts : Prop :=
  ∀ (s : State) (w : FrameWord) (d : DecState) (b : Byte),
    raise (.frameError .badStart w) s = ((s.emitDiag (.frameError .badStart w)).emitSesctl .reset).emitRcvctl .restart ∧
    raise (.frameError .badStop w) s = ((s.emitDiag (.frameError .badStop w)).emitSesctl .reset).emitRcvctl .restart ∧
    raise (.frameError .badParity w) s = (s.emitDiag (.frameError .badParity w)).emitTx (txWord s.framing.cmdResend) ∧
    raise (.sequenceError d b) s = (s.emitDiag (.sequenceError d b)).setDec (DecState.initOf s.codeSet) ∧
    raise .handshakeTimeout s = s.emitDiag .handshakeTimeout ∧
    raise (.bufferOverflow b) s = s.emitDiag (.bufferOverflow b) ∧
    diagCode (.frameError .badStart w) = 0 ∧ diagCode (.frameError .badParity w) = 1 ∧
    diagCode (.frameError .badStop w) = 2 ∧ diagCode (.sequenceError d b) = 3 ∧ diagCode .handshakeTimeout = 4 ∧
    diagCode (.bufferOverflow b) = 5

/-- R10, R231, R280, R281. The schedule is a device of the model (log entry 8), as is the field result (log entry 9). -/
def Obligations.BoundaryRunsTheOldestWords : Prop :=
  ∀ s : State, s.setupDone = true →
    atBoundary s = .next (preempt s) ∧
    (s.env.preempts = [] → preempt s = s) ∧
    (s.irqEn = false → preempt s = s.setPreempts s.env.preempts.tail) ∧
    (s.irqEn = true → (preempt s).env =
      { agenda := s.env.agenda, rcv := s.env.rcv.drop (s.env.preempts.headD 0), preempts := s.env.preempts.tail }) ∧
    (∀ rest, s.env.preempts = 0 :: rest → preempt s = s.setPreempts rest) ∧
    (s.env.rcv = [] → preempt s = s.setPreempts s.env.preempts.tail) ∧
    (∀ n rest f words, s.env.preempts = (n + 1) :: rest → s.irqEn = true → s.env.rcv = f :: words →
      ∃ t : State, exec (wordOperation s f) ((s.setPreempts rest).setRcv words) = .next t ∧
        preempt s = preempt ((t.answer s.result).setPreempts (n :: rest)))

/-- R236, with R10, R231 and R280 at each boundary. Where the boundaries lie is the reading of the model (log entry 24), the schedule its device (log entry 8). -/
def Obligations.TaskIterIsItsMicroSteps : Prop :=
  ∀ (s : State) (now : Nat), s.setupDone = true → ∃ asked : State, atBoundary (s.ask .hidReady) = .next asked ∧
    exec (.taskIter now false) s = .next ((asked.ask (.onTick now)).answer .none) ∧
    (asked.rb.head = asked.rb.tail → ∃ drained : State, atBoundary asked = .next drained ∧
      exec (.taskIter now true) s = .next ((drained.ask (.onTick now)).answer .none)) ∧
    (∀ v, asked.rb.head ≠ asked.rb.tail → Memory.read asked.rb.buf asked.rb.tail.toNat = some v →
      ∃ nonempty tested taken ready drained : State,
        atBoundary asked = .next nonempty ∧ atBoundary nonempty = .next tested ∧ atBoundary tested = .next taken ∧
        atBoundary (taken.setTail (s.rb.tail + 1#5)) = .next ready ∧
        (match (stepDecoder s.tables s.dec v).event with
          | none => atBoundary (feed v ready) = .next drained
          | some ev => ∃ fed : State, atBoundary (feed v ready) = .next fed ∧ atBoundary (fed.emitHid ev) = .next drained) ∧
        exec (.taskIter now true) s = .next ((drained.ask (.onTick now)).answer .none))
end

