-- ==== Sys2Proof/Laws/Memory.lean ====
section
/-! SUPPORT. The laws of the ring storage: a read after a write, and that a write keeps the canonical form. -/

namespace Sys2Proof.Machine

@[simp] theorem memory_read_write_same (m : List Host.Cell) (a : Nat) (v : Byte) :
    Memory.read (Memory.write m a v) a = some v := by
  induction m with
  | nil => simp [Memory.write, Memory.read]
  | cons c rest ih =>
    obtain ⟨k, w⟩ := c
    simp only [Memory.write]
    split
    · simp [Memory.read]
    · split
      · simp [Memory.read]
      · next h => simp [Memory.read, ih, Ne.symm h]

theorem memory_read_write_other (m : List Host.Cell) {a b : Nat} (v : Byte) (h : b ≠ a) :
    Memory.read (Memory.write m a v) b = Memory.read m b := by
  induction m with
  | nil => simp [Memory.write, Memory.read, Ne.symm h]
  | cons c rest ih =>
    obtain ⟨k, w⟩ := c
    simp only [Memory.write]
    split
    · simp [Memory.read, Ne.symm h]
    · split
      · next e => subst e; simp [Memory.read, Ne.symm h]
      · simp [Memory.read, ih]

theorem memory_wfFrom_write (m : List Host.Cell) {lo a : Nat} (v : Byte) (hlo : lo ≤ a) (ha : a < 32)
    (h : Memory.wfFrom lo m = true) : Memory.wfFrom lo (Memory.write m a v) = true := by
  induction m generalizing lo with
  | nil => simp [Memory.write, Memory.wfFrom, hlo, ha]
  | cons c rest ih =>
    obtain ⟨k, w⟩ := c
    simp only [Memory.wfFrom, Bool.and_eq_true, decide_eq_true_eq] at h
    obtain ⟨⟨h1, h2⟩, h3⟩ := h
    simp only [Memory.write]
    split
    · next hk =>
      simp only [Memory.wfFrom, Bool.and_eq_true, decide_eq_true_eq]
      exact ⟨⟨hlo, ha⟩, ⟨hk, h2⟩, h3⟩
    · split
      · next e => subst e; simp [Memory.wfFrom, hlo, ha, h3]
      · next hk hne =>
        simp only [Memory.wfFrom, Bool.and_eq_true, decide_eq_true_eq]
        exact ⟨⟨h1, h2⟩, ih (by omega) h3⟩

/-- A write to an address that exists keeps the canonical form. -/
theorem memory_wf_write (m : List Host.Cell) {a : Nat} (v : Byte) (ha : a < 32) (h : Memory.wf m = true) :
    Memory.wf (Memory.write m a v) = true :=
  memory_wfFrom_write m v (Nat.zero_le a) ha h

/-- The only memory operation of the machine keeps the canonical form of the ring storage. -/
theorem putSlot_wf (s : State) (a : Index) (v : Byte) (h : Memory.wf s.rb.buf = true) :
    Memory.wf (s.putSlot a v).rb.buf = true :=
  memory_wf_write s.rb.buf v a.isLt h

theorem reset_memory_wf : Memory.wf State.reset.rb.buf = true := by decide

end Sys2Proof.Machine
end

