-- ==== Sys2Proof/Laws/State.lean ====
section
/-! SUPPORT. For each named update of the state, what each field is after it. -/

namespace Sys2Proof.Machine

@[simp] theorem putSlot_proto (s : State) (a : Index) (v : Byte) : (s.putSlot a v).proto = s.proto := rfl
@[simp] theorem putSlot_framing (s : State) (a : Index) (v : Byte) : (s.putSlot a v).framing = s.framing := rfl
@[simp] theorem putSlot_tables (s : State) (a : Index) (v : Byte) : (s.putSlot a v).tables = s.tables := rfl
@[simp] theorem putSlot_setupDone (s : State) (a : Index) (v : Byte) : (s.putSlot a v).setupDone = s.setupDone := rfl
@[simp] theorem putSlot_rb_buf (s : State) (a : Index) (v : Byte) : (s.putSlot a v).rb.buf = Memory.write s.rb.buf a.toNat v := rfl
@[simp] theorem putSlot_rb_head (s : State) (a : Index) (v : Byte) : (s.putSlot a v).rb.head = s.rb.head := rfl
@[simp] theorem putSlot_rb_tail (s : State) (a : Index) (v : Byte) : (s.putSlot a v).rb.tail = s.rb.tail := rfl
@[simp] theorem putSlot_dec (s : State) (a : Index) (v : Byte) : (s.putSlot a v).dec = s.dec := rfl
@[simp] theorem putSlot_irqEn (s : State) (a : Index) (v : Byte) : (s.putSlot a v).irqEn = s.irqEn := rfl
@[simp] theorem putSlot_out (s : State) (a : Index) (v : Byte) : (s.putSlot a v).out = s.out := rfl
@[simp] theorem putSlot_env (s : State) (a : Index) (v : Byte) : (s.putSlot a v).env = s.env := rfl
@[simp] theorem putSlot_result (s : State) (a : Index) (v : Byte) : (s.putSlot a v).result = s.result := rfl
@[simp] theorem putSlot_freeCount (s : State) (a : Index) (v : Byte) : (s.putSlot a v).freeCount = s.freeCount := rfl

@[simp] theorem setHead_proto (s : State) (i : Index) : (s.setHead i).proto = s.proto := rfl
@[simp] theorem setHead_framing (s : State) (i : Index) : (s.setHead i).framing = s.framing := rfl
@[simp] theorem setHead_tables (s : State) (i : Index) : (s.setHead i).tables = s.tables := rfl
@[simp] theorem setHead_setupDone (s : State) (i : Index) : (s.setHead i).setupDone = s.setupDone := rfl
@[simp] theorem setHead_rb_buf (s : State) (i : Index) : (s.setHead i).rb.buf = s.rb.buf := rfl
@[simp] theorem setHead_rb_head (s : State) (i : Index) : (s.setHead i).rb.head = i := rfl
@[simp] theorem setHead_rb_tail (s : State) (i : Index) : (s.setHead i).rb.tail = s.rb.tail := rfl
@[simp] theorem setHead_dec (s : State) (i : Index) : (s.setHead i).dec = s.dec := rfl
@[simp] theorem setHead_irqEn (s : State) (i : Index) : (s.setHead i).irqEn = s.irqEn := rfl
@[simp] theorem setHead_out (s : State) (i : Index) : (s.setHead i).out = s.out := rfl
@[simp] theorem setHead_env (s : State) (i : Index) : (s.setHead i).env = s.env := rfl
@[simp] theorem setHead_result (s : State) (i : Index) : (s.setHead i).result = s.result := rfl
@[simp] theorem setHead_freeCount (s : State) (i : Index) : (s.setHead i).freeCount = s.freeCount := rfl

@[simp] theorem setTail_proto (s : State) (i : Index) : (s.setTail i).proto = s.proto := rfl
@[simp] theorem setTail_framing (s : State) (i : Index) : (s.setTail i).framing = s.framing := rfl
@[simp] theorem setTail_tables (s : State) (i : Index) : (s.setTail i).tables = s.tables := rfl
@[simp] theorem setTail_setupDone (s : State) (i : Index) : (s.setTail i).setupDone = s.setupDone := rfl
@[simp] theorem setTail_rb_buf (s : State) (i : Index) : (s.setTail i).rb.buf = s.rb.buf := rfl
@[simp] theorem setTail_rb_head (s : State) (i : Index) : (s.setTail i).rb.head = s.rb.head := rfl
@[simp] theorem setTail_rb_tail (s : State) (i : Index) : (s.setTail i).rb.tail = i := rfl
@[simp] theorem setTail_dec (s : State) (i : Index) : (s.setTail i).dec = s.dec := rfl
@[simp] theorem setTail_irqEn (s : State) (i : Index) : (s.setTail i).irqEn = s.irqEn := rfl
@[simp] theorem setTail_out (s : State) (i : Index) : (s.setTail i).out = s.out := rfl
@[simp] theorem setTail_env (s : State) (i : Index) : (s.setTail i).env = s.env := rfl
@[simp] theorem setTail_result (s : State) (i : Index) : (s.setTail i).result = s.result := rfl
@[simp] theorem setTail_freeCount (s : State) (i : Index) : (s.setTail i).freeCount = s.freeCount := rfl

@[simp] theorem setDec_proto (s : State) (d : DecState) : (s.setDec d).proto = s.proto := rfl
@[simp] theorem setDec_framing (s : State) (d : DecState) : (s.setDec d).framing = s.framing := rfl
@[simp] theorem setDec_tables (s : State) (d : DecState) : (s.setDec d).tables = s.tables := rfl
@[simp] theorem setDec_setupDone (s : State) (d : DecState) : (s.setDec d).setupDone = s.setupDone := rfl
@[simp] theorem setDec_rb (s : State) (d : DecState) : (s.setDec d).rb = s.rb := rfl
@[simp] theorem setDec_dec (s : State) (d : DecState) : (s.setDec d).dec = d := rfl
@[simp] theorem setDec_irqEn (s : State) (d : DecState) : (s.setDec d).irqEn = s.irqEn := rfl
@[simp] theorem setDec_out (s : State) (d : DecState) : (s.setDec d).out = s.out := rfl
@[simp] theorem setDec_env (s : State) (d : DecState) : (s.setDec d).env = s.env := rfl
@[simp] theorem setDec_result (s : State) (d : DecState) : (s.setDec d).result = s.result := rfl
@[simp] theorem setDec_freeCount (s : State) (d : DecState) : (s.setDec d).freeCount = s.freeCount := rfl

@[simp] theorem setProto_proto (s : State) (p : Proto) : (s.setProto p).proto = p := rfl
@[simp] theorem setProto_framing (s : State) (p : Proto) : (s.setProto p).framing = s.framing := rfl
@[simp] theorem setProto_tables (s : State) (p : Proto) : (s.setProto p).tables = s.tables := rfl
@[simp] theorem setProto_setupDone (s : State) (p : Proto) : (s.setProto p).setupDone = s.setupDone := rfl
@[simp] theorem setProto_rb (s : State) (p : Proto) : (s.setProto p).rb = s.rb := rfl
@[simp] theorem setProto_dec (s : State) (p : Proto) : (s.setProto p).dec = s.dec := rfl
@[simp] theorem setProto_irqEn (s : State) (p : Proto) : (s.setProto p).irqEn = s.irqEn := rfl
@[simp] theorem setProto_out (s : State) (p : Proto) : (s.setProto p).out = s.out := rfl
@[simp] theorem setProto_env (s : State) (p : Proto) : (s.setProto p).env = s.env := rfl
@[simp] theorem setProto_result (s : State) (p : Proto) : (s.setProto p).result = s.result := rfl
@[simp] theorem setProto_freeCount (s : State) (p : Proto) : (s.setProto p).freeCount = s.freeCount := rfl

@[simp] theorem setIrqEn_proto (s : State) (v : Bool) : (s.setIrqEn v).proto = s.proto := rfl
@[simp] theorem setIrqEn_framing (s : State) (v : Bool) : (s.setIrqEn v).framing = s.framing := rfl
@[simp] theorem setIrqEn_tables (s : State) (v : Bool) : (s.setIrqEn v).tables = s.tables := rfl
@[simp] theorem setIrqEn_setupDone (s : State) (v : Bool) : (s.setIrqEn v).setupDone = s.setupDone := rfl
@[simp] theorem setIrqEn_rb (s : State) (v : Bool) : (s.setIrqEn v).rb = s.rb := rfl
@[simp] theorem setIrqEn_dec (s : State) (v : Bool) : (s.setIrqEn v).dec = s.dec := rfl
@[simp] theorem setIrqEn_irqEn (s : State) (v : Bool) : (s.setIrqEn v).irqEn = v := rfl
@[simp] theorem setIrqEn_out (s : State) (v : Bool) : (s.setIrqEn v).out = s.out := rfl
@[simp] theorem setIrqEn_env (s : State) (v : Bool) : (s.setIrqEn v).env = s.env := rfl
@[simp] theorem setIrqEn_result (s : State) (v : Bool) : (s.setIrqEn v).result = s.result := rfl
@[simp] theorem setIrqEn_freeCount (s : State) (v : Bool) : (s.setIrqEn v).freeCount = s.freeCount := rfl

@[simp] theorem markSetup_proto (s : State) : (s.markSetup).proto = s.proto := rfl
@[simp] theorem markSetup_framing (s : State) : (s.markSetup).framing = s.framing := rfl
@[simp] theorem markSetup_tables (s : State) : (s.markSetup).tables = s.tables := rfl
@[simp] theorem markSetup_setupDone (s : State) : (s.markSetup).setupDone = true := rfl
@[simp] theorem markSetup_rb (s : State) : (s.markSetup).rb = s.rb := rfl
@[simp] theorem markSetup_dec (s : State) : (s.markSetup).dec = s.dec := rfl
@[simp] theorem markSetup_irqEn (s : State) : (s.markSetup).irqEn = s.irqEn := rfl
@[simp] theorem markSetup_out (s : State) : (s.markSetup).out = s.out := rfl
@[simp] theorem markSetup_env (s : State) : (s.markSetup).env = s.env := rfl
@[simp] theorem markSetup_result (s : State) : (s.markSetup).result = s.result := rfl
@[simp] theorem markSetup_freeCount (s : State) : (s.markSetup).freeCount = s.freeCount := rfl

@[simp] theorem emitTx_proto (s : State) (w : TxFrame) : (s.emitTx w).proto = s.proto := rfl
@[simp] theorem emitTx_framing (s : State) (w : TxFrame) : (s.emitTx w).framing = s.framing := rfl
@[simp] theorem emitTx_tables (s : State) (w : TxFrame) : (s.emitTx w).tables = s.tables := rfl
@[simp] theorem emitTx_setupDone (s : State) (w : TxFrame) : (s.emitTx w).setupDone = s.setupDone := rfl
@[simp] theorem emitTx_rb (s : State) (w : TxFrame) : (s.emitTx w).rb = s.rb := rfl
@[simp] theorem emitTx_dec (s : State) (w : TxFrame) : (s.emitTx w).dec = s.dec := rfl
@[simp] theorem emitTx_irqEn (s : State) (w : TxFrame) : (s.emitTx w).irqEn = s.irqEn := rfl
@[simp] theorem emitTx_out_tx (s : State) (w : TxFrame) : (s.emitTx w).out.tx = s.out.tx ++ [w] := rfl
@[simp] theorem emitTx_out_rcvctl (s : State) (w : TxFrame) : (s.emitTx w).out.rcvctl = s.out.rcvctl := rfl
@[simp] theorem emitTx_out_sesctl (s : State) (w : TxFrame) : (s.emitTx w).out.sesctl = s.out.sesctl := rfl
@[simp] theorem emitTx_out_hid (s : State) (w : TxFrame) : (s.emitTx w).out.hid = s.out.hid := rfl
@[simp] theorem emitTx_out_diag (s : State) (w : TxFrame) : (s.emitTx w).out.diag = s.out.diag := rfl
@[simp] theorem emitTx_out_asks (s : State) (w : TxFrame) : (s.emitTx w).out.asks = s.out.asks := rfl
@[simp] theorem emitTx_env (s : State) (w : TxFrame) : (s.emitTx w).env = s.env := rfl
@[simp] theorem emitTx_result (s : State) (w : TxFrame) : (s.emitTx w).result = s.result := rfl
@[simp] theorem emitTx_freeCount (s : State) (w : TxFrame) : (s.emitTx w).freeCount = s.freeCount := rfl

@[simp] theorem emitRcvctl_proto (s : State) (t : RcvToken) : (s.emitRcvctl t).proto = s.proto := rfl
@[simp] theorem emitRcvctl_framing (s : State) (t : RcvToken) : (s.emitRcvctl t).framing = s.framing := rfl
@[simp] theorem emitRcvctl_tables (s : State) (t : RcvToken) : (s.emitRcvctl t).tables = s.tables := rfl
@[simp] theorem emitRcvctl_setupDone (s : State) (t : RcvToken) : (s.emitRcvctl t).setupDone = s.setupDone := rfl
@[simp] theorem emitRcvctl_rb (s : State) (t : RcvToken) : (s.emitRcvctl t).rb = s.rb := rfl
@[simp] theorem emitRcvctl_dec (s : State) (t : RcvToken) : (s.emitRcvctl t).dec = s.dec := rfl
@[simp] theorem emitRcvctl_irqEn (s : State) (t : RcvToken) : (s.emitRcvctl t).irqEn = s.irqEn := rfl
@[simp] theorem emitRcvctl_out_tx (s : State) (t : RcvToken) : (s.emitRcvctl t).out.tx = s.out.tx := rfl
@[simp] theorem emitRcvctl_out_rcvctl (s : State) (t : RcvToken) : (s.emitRcvctl t).out.rcvctl = s.out.rcvctl ++ [t] := rfl
@[simp] theorem emitRcvctl_out_sesctl (s : State) (t : RcvToken) : (s.emitRcvctl t).out.sesctl = s.out.sesctl := rfl
@[simp] theorem emitRcvctl_out_hid (s : State) (t : RcvToken) : (s.emitRcvctl t).out.hid = s.out.hid := rfl
@[simp] theorem emitRcvctl_out_diag (s : State) (t : RcvToken) : (s.emitRcvctl t).out.diag = s.out.diag := rfl
@[simp] theorem emitRcvctl_out_asks (s : State) (t : RcvToken) : (s.emitRcvctl t).out.asks = s.out.asks := rfl
@[simp] theorem emitRcvctl_env (s : State) (t : RcvToken) : (s.emitRcvctl t).env = s.env := rfl
@[simp] theorem emitRcvctl_result (s : State) (t : RcvToken) : (s.emitRcvctl t).result = s.result := rfl
@[simp] theorem emitRcvctl_freeCount (s : State) (t : RcvToken) : (s.emitRcvctl t).freeCount = s.freeCount := rfl

@[simp] theorem emitSesctl_proto (s : State) (t : SesToken) : (s.emitSesctl t).proto = s.proto := rfl
@[simp] theorem emitSesctl_framing (s : State) (t : SesToken) : (s.emitSesctl t).framing = s.framing := rfl
@[simp] theorem emitSesctl_tables (s : State) (t : SesToken) : (s.emitSesctl t).tables = s.tables := rfl
@[simp] theorem emitSesctl_setupDone (s : State) (t : SesToken) : (s.emitSesctl t).setupDone = s.setupDone := rfl
@[simp] theorem emitSesctl_rb (s : State) (t : SesToken) : (s.emitSesctl t).rb = s.rb := rfl
@[simp] theorem emitSesctl_dec (s : State) (t : SesToken) : (s.emitSesctl t).dec = s.dec := rfl
@[simp] theorem emitSesctl_irqEn (s : State) (t : SesToken) : (s.emitSesctl t).irqEn = s.irqEn := rfl
@[simp] theorem emitSesctl_out_tx (s : State) (t : SesToken) : (s.emitSesctl t).out.tx = s.out.tx := rfl
@[simp] theorem emitSesctl_out_rcvctl (s : State) (t : SesToken) : (s.emitSesctl t).out.rcvctl = s.out.rcvctl := rfl
@[simp] theorem emitSesctl_out_sesctl (s : State) (t : SesToken) : (s.emitSesctl t).out.sesctl = s.out.sesctl ++ [t] := rfl
@[simp] theorem emitSesctl_out_hid (s : State) (t : SesToken) : (s.emitSesctl t).out.hid = s.out.hid := rfl
@[simp] theorem emitSesctl_out_diag (s : State) (t : SesToken) : (s.emitSesctl t).out.diag = s.out.diag := rfl
@[simp] theorem emitSesctl_out_asks (s : State) (t : SesToken) : (s.emitSesctl t).out.asks = s.out.asks := rfl
@[simp] theorem emitSesctl_env (s : State) (t : SesToken) : (s.emitSesctl t).env = s.env := rfl
@[simp] theorem emitSesctl_result (s : State) (t : SesToken) : (s.emitSesctl t).result = s.result := rfl
@[simp] theorem emitSesctl_freeCount (s : State) (t : SesToken) : (s.emitSesctl t).freeCount = s.freeCount := rfl

@[simp] theorem emitHid_proto (s : State) (e : KeyEvent) : (s.emitHid e).proto = s.proto := rfl
@[simp] theorem emitHid_framing (s : State) (e : KeyEvent) : (s.emitHid e).framing = s.framing := rfl
@[simp] theorem emitHid_tables (s : State) (e : KeyEvent) : (s.emitHid e).tables = s.tables := rfl
@[simp] theorem emitHid_setupDone (s : State) (e : KeyEvent) : (s.emitHid e).setupDone = s.setupDone := rfl
@[simp] theorem emitHid_rb (s : State) (e : KeyEvent) : (s.emitHid e).rb = s.rb := rfl
@[simp] theorem emitHid_dec (s : State) (e : KeyEvent) : (s.emitHid e).dec = s.dec := rfl
@[simp] theorem emitHid_irqEn (s : State) (e : KeyEvent) : (s.emitHid e).irqEn = s.irqEn := rfl
@[simp] theorem emitHid_out_tx (s : State) (e : KeyEvent) : (s.emitHid e).out.tx = s.out.tx := rfl
@[simp] theorem emitHid_out_rcvctl (s : State) (e : KeyEvent) : (s.emitHid e).out.rcvctl = s.out.rcvctl := rfl
@[simp] theorem emitHid_out_sesctl (s : State) (e : KeyEvent) : (s.emitHid e).out.sesctl = s.out.sesctl := rfl
@[simp] theorem emitHid_out_hid (s : State) (e : KeyEvent) : (s.emitHid e).out.hid = s.out.hid ++ [e] := rfl
@[simp] theorem emitHid_out_diag (s : State) (e : KeyEvent) : (s.emitHid e).out.diag = s.out.diag := rfl
@[simp] theorem emitHid_out_asks (s : State) (e : KeyEvent) : (s.emitHid e).out.asks = s.out.asks := rfl
@[simp] theorem emitHid_env (s : State) (e : KeyEvent) : (s.emitHid e).env = s.env := rfl
@[simp] theorem emitHid_result (s : State) (e : KeyEvent) : (s.emitHid e).result = s.result := rfl
@[simp] theorem emitHid_freeCount (s : State) (e : KeyEvent) : (s.emitHid e).freeCount = s.freeCount := rfl

@[simp] theorem emitDiag_proto (s : State) (d : Diag) : (s.emitDiag d).proto = s.proto := rfl
@[simp] theorem emitDiag_framing (s : State) (d : Diag) : (s.emitDiag d).framing = s.framing := rfl
@[simp] theorem emitDiag_tables (s : State) (d : Diag) : (s.emitDiag d).tables = s.tables := rfl
@[simp] theorem emitDiag_setupDone (s : State) (d : Diag) : (s.emitDiag d).setupDone = s.setupDone := rfl
@[simp] theorem emitDiag_rb (s : State) (d : Diag) : (s.emitDiag d).rb = s.rb := rfl
@[simp] theorem emitDiag_dec (s : State) (d : Diag) : (s.emitDiag d).dec = s.dec := rfl
@[simp] theorem emitDiag_irqEn (s : State) (d : Diag) : (s.emitDiag d).irqEn = s.irqEn := rfl
@[simp] theorem emitDiag_out_tx (s : State) (d : Diag) : (s.emitDiag d).out.tx = s.out.tx := rfl
@[simp] theorem emitDiag_out_rcvctl (s : State) (d : Diag) : (s.emitDiag d).out.rcvctl = s.out.rcvctl := rfl
@[simp] theorem emitDiag_out_sesctl (s : State) (d : Diag) : (s.emitDiag d).out.sesctl = s.out.sesctl := rfl
@[simp] theorem emitDiag_out_hid (s : State) (d : Diag) : (s.emitDiag d).out.hid = s.out.hid := rfl
@[simp] theorem emitDiag_out_diag (s : State) (d : Diag) : (s.emitDiag d).out.diag = s.out.diag ++ [d] := rfl
@[simp] theorem emitDiag_out_asks (s : State) (d : Diag) : (s.emitDiag d).out.asks = s.out.asks := rfl
@[simp] theorem emitDiag_env (s : State) (d : Diag) : (s.emitDiag d).env = s.env := rfl
@[simp] theorem emitDiag_result (s : State) (d : Diag) : (s.emitDiag d).result = s.result := rfl
@[simp] theorem emitDiag_freeCount (s : State) (d : Diag) : (s.emitDiag d).freeCount = s.freeCount := rfl

@[simp] theorem ask_proto (s : State) (c : Ask) : (s.ask c).proto = s.proto := rfl
@[simp] theorem ask_framing (s : State) (c : Ask) : (s.ask c).framing = s.framing := rfl
@[simp] theorem ask_tables (s : State) (c : Ask) : (s.ask c).tables = s.tables := rfl
@[simp] theorem ask_setupDone (s : State) (c : Ask) : (s.ask c).setupDone = s.setupDone := rfl
@[simp] theorem ask_rb (s : State) (c : Ask) : (s.ask c).rb = s.rb := rfl
@[simp] theorem ask_dec (s : State) (c : Ask) : (s.ask c).dec = s.dec := rfl
@[simp] theorem ask_irqEn (s : State) (c : Ask) : (s.ask c).irqEn = s.irqEn := rfl
@[simp] theorem ask_out_tx (s : State) (c : Ask) : (s.ask c).out.tx = s.out.tx := rfl
@[simp] theorem ask_out_rcvctl (s : State) (c : Ask) : (s.ask c).out.rcvctl = s.out.rcvctl := rfl
@[simp] theorem ask_out_sesctl (s : State) (c : Ask) : (s.ask c).out.sesctl = s.out.sesctl := rfl
@[simp] theorem ask_out_hid (s : State) (c : Ask) : (s.ask c).out.hid = s.out.hid := rfl
@[simp] theorem ask_out_diag (s : State) (c : Ask) : (s.ask c).out.diag = s.out.diag := rfl
@[simp] theorem ask_out_asks (s : State) (c : Ask) : (s.ask c).out.asks = s.out.asks ++ [c] := rfl
@[simp] theorem ask_env (s : State) (c : Ask) : (s.ask c).env = s.env := rfl
@[simp] theorem ask_result (s : State) (c : Ask) : (s.ask c).result = s.result := rfl
@[simp] theorem ask_freeCount (s : State) (c : Ask) : (s.ask c).freeCount = s.freeCount := rfl

@[simp] theorem answer_proto (s : State) (r : CallResult) : (s.answer r).proto = s.proto := rfl
@[simp] theorem answer_framing (s : State) (r : CallResult) : (s.answer r).framing = s.framing := rfl
@[simp] theorem answer_tables (s : State) (r : CallResult) : (s.answer r).tables = s.tables := rfl
@[simp] theorem answer_setupDone (s : State) (r : CallResult) : (s.answer r).setupDone = s.setupDone := rfl
@[simp] theorem answer_rb (s : State) (r : CallResult) : (s.answer r).rb = s.rb := rfl
@[simp] theorem answer_dec (s : State) (r : CallResult) : (s.answer r).dec = s.dec := rfl
@[simp] theorem answer_irqEn (s : State) (r : CallResult) : (s.answer r).irqEn = s.irqEn := rfl
@[simp] theorem answer_out (s : State) (r : CallResult) : (s.answer r).out = s.out := rfl
@[simp] theorem answer_env (s : State) (r : CallResult) : (s.answer r).env = s.env := rfl
@[simp] theorem answer_result (s : State) (r : CallResult) : (s.answer r).result = r := rfl
@[simp] theorem answer_freeCount (s : State) (r : CallResult) : (s.answer r).freeCount = s.freeCount := rfl

@[simp] theorem useFree_proto (s : State) : (s.useFree).proto = s.proto := rfl
@[simp] theorem useFree_framing (s : State) : (s.useFree).framing = s.framing := rfl
@[simp] theorem useFree_tables (s : State) : (s.useFree).tables = s.tables := rfl
@[simp] theorem useFree_setupDone (s : State) : (s.useFree).setupDone = s.setupDone := rfl
@[simp] theorem useFree_rb (s : State) : (s.useFree).rb = s.rb := rfl
@[simp] theorem useFree_dec (s : State) : (s.useFree).dec = s.dec := rfl
@[simp] theorem useFree_irqEn (s : State) : (s.useFree).irqEn = s.irqEn := rfl
@[simp] theorem useFree_out (s : State) : (s.useFree).out = s.out := rfl
@[simp] theorem useFree_env (s : State) : (s.useFree).env = s.env := rfl
@[simp] theorem useFree_result (s : State) : (s.useFree).result = s.result := rfl
@[simp] theorem useFree_freeCount (s : State) : (s.useFree).freeCount = s.freeCount + 1 := rfl

@[simp] theorem setAgenda_proto (s : State) (l : List Event) : (s.setAgenda l).proto = s.proto := rfl
@[simp] theorem setAgenda_framing (s : State) (l : List Event) : (s.setAgenda l).framing = s.framing := rfl
@[simp] theorem setAgenda_tables (s : State) (l : List Event) : (s.setAgenda l).tables = s.tables := rfl
@[simp] theorem setAgenda_setupDone (s : State) (l : List Event) : (s.setAgenda l).setupDone = s.setupDone := rfl
@[simp] theorem setAgenda_rb (s : State) (l : List Event) : (s.setAgenda l).rb = s.rb := rfl
@[simp] theorem setAgenda_dec (s : State) (l : List Event) : (s.setAgenda l).dec = s.dec := rfl
@[simp] theorem setAgenda_irqEn (s : State) (l : List Event) : (s.setAgenda l).irqEn = s.irqEn := rfl
@[simp] theorem setAgenda_out (s : State) (l : List Event) : (s.setAgenda l).out = s.out := rfl
@[simp] theorem setAgenda_env_agenda (s : State) (l : List Event) : (s.setAgenda l).env.agenda = l := rfl
@[simp] theorem setAgenda_env_rcv (s : State) (l : List Event) : (s.setAgenda l).env.rcv = s.env.rcv := rfl
@[simp] theorem setAgenda_env_preempts (s : State) (l : List Event) : (s.setAgenda l).env.preempts = s.env.preempts := rfl
@[simp] theorem setAgenda_result (s : State) (l : List Event) : (s.setAgenda l).result = s.result := rfl
@[simp] theorem setAgenda_freeCount (s : State) (l : List Event) : (s.setAgenda l).freeCount = s.freeCount := rfl

@[simp] theorem setRcv_proto (s : State) (l : List Frame) : (s.setRcv l).proto = s.proto := rfl
@[simp] theorem setRcv_framing (s : State) (l : List Frame) : (s.setRcv l).framing = s.framing := rfl
@[simp] theorem setRcv_tables (s : State) (l : List Frame) : (s.setRcv l).tables = s.tables := rfl
@[simp] theorem setRcv_setupDone (s : State) (l : List Frame) : (s.setRcv l).setupDone = s.setupDone := rfl
@[simp] theorem setRcv_rb (s : State) (l : List Frame) : (s.setRcv l).rb = s.rb := rfl
@[simp] theorem setRcv_dec (s : State) (l : List Frame) : (s.setRcv l).dec = s.dec := rfl
@[simp] theorem setRcv_irqEn (s : State) (l : List Frame) : (s.setRcv l).irqEn = s.irqEn := rfl
@[simp] theorem setRcv_out (s : State) (l : List Frame) : (s.setRcv l).out = s.out := rfl
@[simp] theorem setRcv_env_agenda (s : State) (l : List Frame) : (s.setRcv l).env.agenda = s.env.agenda := rfl
@[simp] theorem setRcv_env_rcv (s : State) (l : List Frame) : (s.setRcv l).env.rcv = l := rfl
@[simp] theorem setRcv_env_preempts (s : State) (l : List Frame) : (s.setRcv l).env.preempts = s.env.preempts := rfl
@[simp] theorem setRcv_result (s : State) (l : List Frame) : (s.setRcv l).result = s.result := rfl
@[simp] theorem setRcv_freeCount (s : State) (l : List Frame) : (s.setRcv l).freeCount = s.freeCount := rfl

@[simp] theorem setPreempts_proto (s : State) (l : List Nat) : (s.setPreempts l).proto = s.proto := rfl
@[simp] theorem setPreempts_framing (s : State) (l : List Nat) : (s.setPreempts l).framing = s.framing := rfl
@[simp] theorem setPreempts_tables (s : State) (l : List Nat) : (s.setPreempts l).tables = s.tables := rfl
@[simp] theorem setPreempts_setupDone (s : State) (l : List Nat) : (s.setPreempts l).setupDone = s.setupDone := rfl
@[simp] theorem setPreempts_rb (s : State) (l : List Nat) : (s.setPreempts l).rb = s.rb := rfl
@[simp] theorem setPreempts_dec (s : State) (l : List Nat) : (s.setPreempts l).dec = s.dec := rfl
@[simp] theorem setPreempts_irqEn (s : State) (l : List Nat) : (s.setPreempts l).irqEn = s.irqEn := rfl
@[simp] theorem setPreempts_out (s : State) (l : List Nat) : (s.setPreempts l).out = s.out := rfl
@[simp] theorem setPreempts_env_agenda (s : State) (l : List Nat) : (s.setPreempts l).env.agenda = s.env.agenda := rfl
@[simp] theorem setPreempts_env_rcv (s : State) (l : List Nat) : (s.setPreempts l).env.rcv = s.env.rcv := rfl
@[simp] theorem setPreempts_env_preempts (s : State) (l : List Nat) : (s.setPreempts l).env.preempts = l := rfl
@[simp] theorem setPreempts_result (s : State) (l : List Nat) : (s.setPreempts l).result = s.result := rfl
@[simp] theorem setPreempts_freeCount (s : State) (l : List Nat) : (s.setPreempts l).freeCount = s.freeCount := rfl

end Sys2Proof.Machine
end

