-- ==== Sys2Proof/Laws/Ops.lean ====
section
/-! SUPPORT. What each shared operation can do, said once. -/

namespace Sys2Proof.Machine

/-! ## Sequencing -/

theorem andThen_next_iff {α β : Type} (o : Host.Outcome α Fault Refusal) (k : α → Host.Outcome β Fault Refusal) (b : β) :
    andThen o k = .next b ↔ ∃ a, o = .next a ∧ k a = .next b := by
  cases o <;> simp [andThen]

@[simp] theorem andThen_next {α β : Type} (a : α) (k : α → Host.Outcome β Fault Refusal) :
    andThen (.next a) k = k a := rfl

theorem afterSetup_next_iff (s t : State) (k : Result) :
    afterSetup s k = .next t ↔ s.setupDone = true ∧ k = .next t := by
  unfold afterSetup; split <;> simp_all

theorem underProto_next_iff (p : Proto) (s t : State) (k : Result) :
    underProto p s k = .next t ↔ s.setupDone = true ∧ s.proto = p ∧ k = .next t := by
  unfold underProto; rw [afterSetup_next_iff]; split <;> simp_all

theorem frameClass_next_iff (p : Proto) (c : Bool) (s t : State) (k : Result) :
    frameClass p c s k = .next t ↔ s.setupDone = true ∧ s.proto = p ∧ c = true ∧ k = .next t := by
  unfold frameClass; rw [underProto_next_iff]; split <;> simp_all

@[simp] theorem ended_eq (s : State) : ended s = .next (s.answer .none) := rfl

@[simp] theorem barrier_eq (s : State) : barrier s = s := rfl

/-! ## The ring -/

/-- The ring after a put (R124): unchanged where it is full, else the slot at `head` written and `head` advanced. -/
def ringAdd (r : Ring) (b : Byte) : Ring :=
  if nextIndex r.head = r.tail then r
  else { buf := Memory.write r.buf r.head.toNat b, head := nextIndex r.head, tail := r.tail }

theorem ringPut_full (b : Byte) (s : State) (h : rbFull s = true) :
    ringPut b s = (s.emitDiag (.bufferOverflow b), false) := by
  simp [ringPut, h, raise, reaction]

theorem ringPut_room (b : Byte) (s : State) (h : rbFull s = false) :
    ringPut b s = ((s.putSlot s.rb.head b).setHead (nextIndex s.rb.head), true) := by
  simp [ringPut, h]

theorem ringPut_rb (b : Byte) (s : State) : (ringPut b s).1.rb = ringAdd s.rb b := by
  cases h : rbFull s
  · rw [ringPut_room b s h]
    simp only [rbFull, beq_eq_false_iff_ne] at h
    simp [ringAdd, h, State.putSlot, State.setHead]
  · rw [ringPut_full b s h]
    simp only [rbFull, beq_iff_eq] at h
    simp [ringAdd, h]

/-! ## The producer -/

/-- What no operation of the producer touches (R22, R234, R285), the waiting words apart. -/
structure ProducerFrame (s t : State) : Prop where
  proto : t.proto = s.proto
  framing : t.framing = s.framing
  tables : t.tables = s.tables
  setupDone : t.setupDone = s.setupDone
  dec : t.dec = s.dec
  irqEn : t.irqEn = s.irqEn
  agenda : t.env.agenda = s.env.agenda
  preempts : t.env.preempts = s.env.preempts
  hid : t.out.hid = s.out.hid
  result : t.result = s.result
  freeCount : t.freeCount = s.freeCount
  tail : t.rb.tail = s.rb.tail

theorem ProducerFrame.refl (s : State) : ProducerFrame s s := by constructor <;> rfl

theorem ProducerFrame.trans {s t u : State} (h : ProducerFrame s t) (k : ProducerFrame t u) : ProducerFrame s u := by
  constructor
  · exact k.proto.trans h.proto
  · exact k.framing.trans h.framing
  · exact k.tables.trans h.tables
  · exact k.setupDone.trans h.setupDone
  · exact k.dec.trans h.dec
  · exact k.irqEn.trans h.irqEn
  · exact k.agenda.trans h.agenda
  · exact k.preempts.trans h.preempts
  · exact k.hid.trans h.hid
  · exact k.result.trans h.result
  · exact k.freeCount.trans h.freeCount
  · exact k.tail.trans h.tail

theorem ringPut_frame (b : Byte) (s : State) : ProducerFrame s (ringPut b s).1 := by
  cases h : rbFull s
  · rw [ringPut_room b s h]; constructor <;> rfl
  · rw [ringPut_full b s h]; constructor <;> rfl

theorem raise_frameError_frame (k : FrameKind) (w : FrameWord) (s : State) :
    ProducerFrame s (raise (.frameError k w) s) := by
  cases k <;> constructor <;> rfl

@[simp] theorem raise_frameError_rb (k : FrameKind) (w : FrameWord) (s : State) :
    (raise (.frameError k w) s).rb = s.rb := by
  cases k <;> rfl

@[simp] theorem raise_frameError_env (k : FrameKind) (w : FrameWord) (s : State) :
    (raise (.frameError k w) s).env = s.env := by
  cases k <;> rfl

@[simp] theorem ringPut_env (b : Byte) (s : State) : (ringPut b s).1.env = s.env := by
  cases h : rbFull s
  · rw [ringPut_room b s h]; rfl
  · rw [ringPut_full b s h]; rfl

/-- A validated AT/PS2 byte is put at most once and touches nothing else of the ring. -/
theorem routeAt_spec (b : Byte) (a : Action) (s : State) :
    ProducerFrame s (routeAt b a s) ∧ (routeAt b a s).env = s.env ∧
      ((routeAt b a s).rb = s.rb ∨ (routeAt b a s).rb = ringAdd s.rb b) := by
  cases a with
  | sendCommand c => exact ⟨by constructor <;> rfl, rfl, .inl rfl⟩
  | none => exact ⟨by constructor <;> rfl, rfl, .inl rfl⟩
  | enqueueForDecoding =>
    refine ⟨?_, by simp [routeAt], .inr ?_⟩
    · exact ProducerFrame.trans (by constructor <;> rfl) (ringPut_frame b (s.ask (.onByte b)))
    · exact ringPut_rb b (s.ask (.onByte b))

/-- A validated XT byte is put at most once and touches nothing else of the ring. -/
theorem routeXt_spec (b : Byte) (a : Action) (s : State) :
    ProducerFrame s (routeXt b a s) ∧ (routeXt b a s).env = s.env ∧
      ((routeXt b a s).rb = s.rb ∨ (routeXt b a s).rb = ringAdd s.rb b) := by
  cases a with
  | sendCommand c => exact ⟨by constructor <;> rfl, rfl, .inl rfl⟩
  | none => exact ⟨by constructor <;> rfl, rfl, .inl rfl⟩
  | enqueueForDecoding =>
    refine ⟨?_, by simp [routeXt], .inr ?_⟩
    · exact ProducerFrame.trans (by constructor <;> rfl) (ringPut_frame b (s.ask (.onByte b)))
    · exact ringPut_rb b (s.ask (.onByte b))

/-- One operation of the producer puts at most one byte and touches nothing else of the ring (R22, R231). -/
theorem receive_spec (f : Frame) (s : State) :
    ProducerFrame s (receive f s) ∧ (receive f s).env = s.env ∧
      ((receive f s).rb = s.rb ∨ ∃ b, (receive f s).rb = ringAdd s.rb b) := by
  unfold receive
  split
  · unfold rxAtBody
    split
    · next b _ =>
      have h := routeAt_spec b f.answer s
      exact ⟨h.1, h.2.1, h.2.2.imp id fun e => ⟨b, e⟩⟩
    · next k _ => exact ⟨raise_frameError_frame k _ s, by simp, .inl (by simp)⟩
  · unfold rxXtBody
    split
    · next b _ =>
      have h := routeXt_spec b f.answer s
      exact ⟨h.1, h.2.1, h.2.2.imp id fun e => ⟨b, e⟩⟩
    · next k _ => exact ⟨raise_frameError_frame k _ s, by simp, .inl (by simp)⟩

/-- However many words the producer takes, it only puts bytes (R10, R22). -/
theorem runProducer_spec (n : Nat) (s : State) :
    ProducerFrame s (runProducer n s) ∧ ∃ bs : List Byte, (runProducer n s).rb = bs.foldl ringAdd s.rb := by
  induction n generalizing s with
  | zero => exact ⟨ProducerFrame.refl s, [], rfl⟩
  | succ n ih =>
    simp only [runProducer]
    split
    · next f rest _ _ =>
      obtain ⟨fu, _, ru⟩ := receive_spec f (s.setRcv rest)
      obtain ⟨ft, bs, rt⟩ := ih (receive f (s.setRcv rest))
      have f0 : ProducerFrame s (s.setRcv rest) := by constructor <;> rfl
      refine ⟨(f0.trans fu).trans ft, ?_⟩
      rcases ru with ru | ⟨b, ru⟩
      · exact ⟨bs, by simpa [ru] using rt⟩
      · exact ⟨b :: bs, by simpa [ru] using rt⟩
    · exact ⟨ProducerFrame.refl s, [], rfl⟩

/-- While masked the producer takes nothing (R280). -/
theorem runProducer_masked (n : Nat) (s : State) (h : s.irqEn = false) : runProducer n s = s := by
  cases n <;> simp [runProducer, h]

/-- The words the producer takes are the oldest ones, and each leaves the receiver (R231). -/
theorem runProducer_env (n : Nat) (s : State) (h : s.irqEn = true) :
    (runProducer n s).env = { s.env with rcv := s.env.rcv.drop n } := by
  induction n generalizing s with
  | zero => rfl
  | succ n ih =>
    cases hr : s.env.rcv with
    | nil =>
      simp only [runProducer, h, hr, List.drop_nil]
      rw [← hr]
    | cons f rest =>
      obtain ⟨fr, he, _⟩ := receive_spec f (s.setRcv rest)
      simp only [runProducer, h, hr]
      rw [ih _ (fr.irqEn.trans h), he]
      rfl

/-- While masked a boundary only uses up its entry of the schedule (R280). -/
theorem preempt_masked (s : State) (h : s.irqEn = false) : preempt s = s.setPreempts s.env.preempts.tail := by
  unfold preempt
  split
  · next e => rw [e, List.tail_nil, ← e]; rfl
  · next n rest e => rw [runProducer_masked n (s.setPreempts rest) h, e, List.tail_cons]

/-- What a boundary does to the inputs: its entry of the schedule is used up, and so many of the oldest words are taken. -/
theorem preempt_env (s : State) (h : s.irqEn = true) :
    (preempt s).env = { s.env with rcv := s.env.rcv.drop (s.env.preempts.headD 0), preempts := s.env.preempts.tail } := by
  unfold preempt
  split
  · next e => rw [e, List.tail_nil, List.headD_nil, List.drop_zero, ← e]
  · next n rest e => rw [runProducer_env n (s.setPreempts rest) h, e]; rfl

/-- What a boundary leaves as it was: all that a producer's operation does, the schedule itself apart. -/
structure BoundaryFrame (s t : State) : Prop where
  proto : t.proto = s.proto
  framing : t.framing = s.framing
  tables : t.tables = s.tables
  setupDone : t.setupDone = s.setupDone
  dec : t.dec = s.dec
  irqEn : t.irqEn = s.irqEn
  agenda : t.env.agenda = s.env.agenda
  hid : t.out.hid = s.out.hid
  result : t.result = s.result
  freeCount : t.freeCount = s.freeCount
  tail : t.rb.tail = s.rb.tail

/-- At a boundary the producer only puts bytes (R10, R22). -/
theorem preempt_spec (s : State) :
    BoundaryFrame s (preempt s) ∧ ∃ bs : List Byte, (preempt s).rb = bs.foldl ringAdd s.rb := by
  unfold preempt
  split
  · exact ⟨by constructor <;> rfl, [], rfl⟩
  · next n rest _ =>
    obtain ⟨f, bs, hb⟩ := runProducer_spec n (s.setPreempts rest)
    exact ⟨⟨f.proto, f.framing, f.tables, f.setupDone, f.dec, f.irqEn, f.agenda, f.hid, f.result, f.freeCount, f.tail⟩, bs, hb⟩

/-- At a boundary where no word is scheduled nothing happens. -/
theorem preempt_undisturbed (s : State) (h : s.env.preempts = []) : preempt s = s := by
  simp [preempt, h]

/-- A put leaves `rb.tail` alone, and a byte that is held stays held (R22, R125). -/
theorem ringAdd_tail (r : Ring) (b : Byte) : (ringAdd r b).tail = r.tail := by
  unfold ringAdd; split <;> rfl

theorem ringAdds_tail (bs : List Byte) (r : Ring) : (bs.foldl ringAdd r).tail = r.tail := by
  induction bs generalizing r with
  | nil => rfl
  | cons b bs ih => rw [List.foldl_cons, ih, ringAdd_tail]

theorem ringAdd_keeps_oldest (r : Ring) (b : Byte) (h : r.head ≠ r.tail) :
    (ringAdd r b).head ≠ r.tail ∧ Memory.read (ringAdd r b).buf r.tail.toNat = Memory.read r.buf r.tail.toNat := by
  unfold ringAdd
  split
  · exact ⟨h, rfl⟩
  · next hn => exact ⟨hn, memory_read_write_other _ _ fun e => h (BitVec.eq_of_toNat_eq e.symm)⟩

theorem ringAdds_keep_oldest (bs : List Byte) (r : Ring) (h : r.head ≠ r.tail) :
    (bs.foldl ringAdd r).tail = r.tail ∧ (bs.foldl ringAdd r).head ≠ r.tail ∧
      Memory.read (bs.foldl ringAdd r).buf r.tail.toNat = Memory.read r.buf r.tail.toNat := by
  induction bs generalizing r with
  | nil => exact ⟨rfl, h, rfl⟩
  | cons b bs ih =>
    obtain ⟨h1, h2⟩ := ringAdd_keeps_oldest r b h
    have h3 := ringAdd_tail r b
    have := ih (ringAdd r b) (by rw [h3]; exact h1)
    rw [h3] at this
    exact ⟨this.1, this.2.1, this.2.2.trans h2⟩

end Sys2Proof.Machine
end

