-- ==== Sys2Proof/Laws/Decoder.lean ====
section
/-! SUPPORT. What a step of the decoder can do (R140 to R146), said once for all code sets. -/

namespace Sys2Proof.Machine

@[simp] theorem initOf_codeSet (c : CodeSet) : (DecState.initOf c).codeSet = c := by cases c <;> rfl

/-- A transition stays in its code set, and one with a diagnostic goes to `INIT` with no event (R25, R142, R146). -/
structure Transition.Lawful (t : Transition) (c : CodeSet) : Prop where
  codeSet : t.next.codeSet = c
  error : t.error = true → t.next = DecState.initOf c ∧ t.event = none

theorem toState_lawful (d : DecState) : (toState d).Lawful d.codeSet := ⟨rfl, by simp [toState]⟩
theorem complete_lawful (c : CodeSet) (e : Option KeyEvent) : (complete c e).Lawful c :=
  ⟨initOf_codeSet c, by simp [complete]⟩
theorem emitKey_lawful (c : CodeSet) (k : Byte) (m : Bool) : (emitKey c k m).Lawful c :=
  complete_lawful c _
theorem unexpected_lawful (c : CodeSet) : (unexpected c).Lawful c := ⟨initOf_codeSet c, fun _ => ⟨rfl, rfl⟩⟩

/-- Every step of every decoder is lawful. -/
theorem stepDecoder_lawful (tb : Tables) (d : DecState) (b : Byte) : (stepDecoder tb d b).Lawful d.codeSet := by
  cases d with
  | set1 st =>
    cases st <;> simp only [stepDecoder, stepSet1] <;> (repeat' split) <;>
      first | exact toState_lawful _ | exact complete_lawful _ _ | exact unexpected_lawful _
  | set2 st =>
    cases st <;> simp only [stepDecoder, stepSet2] <;> (repeat' split) <;>
      first | exact toState_lawful _ | exact complete_lawful _ _ | exact unexpected_lawful _
  | set3 st =>
    cases st <;> simp only [stepDecoder, stepSet3] <;> (repeat' split) <;>
      first | exact toState_lawful _ | exact complete_lawful _ _ | exact unexpected_lawful _
  | amiga st =>
    cases st; simp only [stepDecoder, stepAmiga]; split <;>
      first | exact complete_lawful _ _ | exact unexpected_lawful _
  | m0110 st =>
    cases st <;> simp only [stepDecoder, stepM0110] <;> (repeat' split) <;>
      first | exact toState_lawful _ | exact complete_lawful _ _ | exact unexpected_lawful _

/-- Applying a lawful transition writes the decoder state and at most one diagnostic, and nothing else (R140, R275). -/
theorem applyTransition_spec {t : Transition} {c : CodeSet} (h : t.Lawful c) (b : Byte) (s : State) :
    t.error = false ∧ applyTransition t b s = s.setDec t.next ∨
      t.error = true ∧ applyTransition t b s = (s.emitDiag (.sequenceError s.dec b)).setDec (DecState.initOf c) := by
  cases he : t.error
  · left; simp [applyTransition, he]
  · right
    refine ⟨rfl, ?_⟩
    simp only [applyTransition, he, if_true, raise, reaction, (h.error he).1, emitDiag_dec, setDec_dec, initOf_codeSet]
    rfl

/-- The decoder state after a byte is fed is the one of the transition table, whether or not there is a diagnostic. -/
theorem feed_dec (b : Byte) (s : State) : (feed b s).dec = (stepDecoder s.tables s.dec b).next := by
  have h := stepDecoder_lawful s.tables s.dec b
  rcases applyTransition_spec h b s with ⟨_, e⟩ | ⟨he, e⟩
  · rw [feed, e]; rfl
  · rw [feed, e, (h.error he).1]; rfl

/-- All that feeding a byte leaves alone: everything but `dec.state` and `diag` (R140). -/
theorem feed_frame (b : Byte) (s : State) :
    ∃ ds : List Diag, feed b s =
      { s with dec := (stepDecoder s.tables s.dec b).next, out := { s.out with diag := s.out.diag ++ ds } } := by
  have h := stepDecoder_lawful s.tables s.dec b
  rcases applyTransition_spec h b s with ⟨_, e⟩ | ⟨he, e⟩
  · exact ⟨[], by rw [feed, e]; simp [State.setDec]⟩
  · exact ⟨[.sequenceError s.dec b], by rw [feed, e, (h.error he).1]; rfl⟩

/-- A byte class completes exactly after `SETUP`, in its state and on its bytes (R86). -/
theorem byteClass_next_iff (st : DecState) (c : Bool) (tr : Transition) (b : Byte) (s t : State) :
    byteClass st c tr b s = .next t ↔
      s.setupDone = true ∧ s.dec = st ∧ c = true ∧ t = (applyTransition tr b s).answer (.fed tr.event) := by
  unfold byteClass
  rw [afterSetup_next_iff]
  by_cases h1 : s.dec = st <;> cases c <;> simp only [h1, fedBy, Bool.and_true, Bool.and_false, decide_true, decide_false,
    if_true, Bool.false_eq_true, if_false, Host.Outcome.next.injEq, reduceCtorEq, true_and, false_and]
  exact ⟨fun h => ⟨h.1, h.2.symm⟩, fun h => ⟨h.1, h.2.symm⟩⟩

end Sys2Proof.Machine
end

