-- ==== Sys2Proof/Laws/Held.lean ====
section
/-! SUPPORT. The bytes held in the live range (R28): what a put and a get do to them. -/

namespace Sys2Proof.Machine

/-- The bytes a ring holds, oldest first; `held` of a state is that of its ring. -/
def ringHeld (r : Ring) : List Byte := heldFrom r.buf r.tail (r.head - r.tail).toNat

theorem held_eq (s : State) : held s = ringHeld s.rb := rfl

/-- The last byte of a range, split off. -/
theorem heldFrom_snoc (m : List Host.Cell) (a : Index) (n : Nat) :
    heldFrom m a (n + 1) = heldFrom m a n ++ (Memory.read m (a + BitVec.ofNat 5 n).toNat).toList := by
  induction n generalizing a with
  | zero => simp [heldFrom]
  | succ n ih =>
    have h : nextIndex a + BitVec.ofNat 5 n = a + BitVec.ofNat 5 (n + 1) := by
      unfold nextIndex; apply BitVec.eq_of_toNat_eq; simp; omega
    rw [heldFrom, ih, heldFrom, h, List.append_assoc]

/-- A write outside a range leaves the bytes held in the range alone. -/
theorem heldFrom_write (m : List Host.Cell) (x : Index) (v : Byte) (a : Index) (n : Nat)
    (h : ∀ i, i < n → x ≠ a + BitVec.ofNat 5 i) :
    heldFrom (Memory.write m x.toNat v) a n = heldFrom m a n := by
  induction n with
  | zero => rfl
  | succ n ih =>
    rw [heldFrom_snoc, heldFrom_snoc, ih fun i hi => h i (by omega), memory_read_write_other]
    exact fun e => h n (by omega) (BitVec.eq_of_toNat_eq e.symm)

theorem index_add_sub (h t : Index) : t + BitVec.ofNat 5 (h - t).toNat = h := by
  apply BitVec.eq_of_toNat_eq; simp [BitVec.toNat_sub]; omega

theorem count_next (h t : Index) (hf : nextIndex h ≠ t) : (nextIndex h - t).toNat = (h - t).toNat + 1 := by
  have h2 : (nextIndex h).toNat ≠ t.toNat := fun e => hf (BitVec.eq_of_toNat_eq e)
  simp only [nextIndex, BitVec.toNat_add, BitVec.toNat_sub] at *
  simp at *
  omega

/-- A put into a ring with room appends its byte to the bytes held (R28, R124). -/
theorem ringHeld_ringAdd_room (r : Ring) (b : Byte) (hf : nextIndex r.head ≠ r.tail) :
    ringHeld (ringAdd r b) = ringHeld r ++ [b] := by
  simp only [ringHeld, ringAdd, hf, ↓reduceIte, count_next r.head r.tail hf]
  rw [heldFrom_snoc, index_add_sub, memory_read_write_same, heldFrom_write]
  · rfl
  · intro i hi e
    have h1 := (r.head - r.tail).isLt
    have h2 : (r.head - r.tail).toNat = (BitVec.ofNat 5 i).toNat := by rw [e, add_sub_cancel_left]
    rw [BitVec.toNat_ofNat] at h2
    omega

/-- A put into a full ring changes nothing of it (R124). -/
theorem ringAdd_full (r : Ring) (b : Byte) (hf : nextIndex r.head = r.tail) : ringAdd r b = r := by
  simp [ringAdd, hf]

/-- However many bytes are put, those held before stay, in order, and `rb.head` advances by the number of those accepted. -/
theorem ringAdds_held (bs : List Byte) (r : Ring) :
    ∃ put : List Byte, ringHeld (bs.foldl ringAdd r) = ringHeld r ++ put ∧
      (bs.foldl ringAdd r).head = r.head + BitVec.ofNat 5 put.length := by
  induction bs generalizing r with
  | nil => exact ⟨[], by simp⟩
  | cons b bs ih =>
    obtain ⟨put, h1, h2⟩ := ih (ringAdd r b)
    by_cases hf : nextIndex r.head = r.tail
    · rw [ringAdd_full r b hf] at h1 h2
      exact ⟨put, by simpa [ringAdd_full r b hf] using h1, by simpa [ringAdd_full r b hf] using h2⟩
    · refine ⟨b :: put, ?_, ?_⟩
      · rw [List.foldl_cons, h1, ringHeld_ringAdd_room r b hf]; simp
      · have h3 : (ringAdd r b).head = r.head + 1#5 := by rw [ringAdd, if_neg hf]; rfl
        rw [List.foldl_cons, h2, h3, List.length_cons]
        apply BitVec.eq_of_toNat_eq; simp; omega

/-- Releasing the slot at `rb.tail` removes the oldest byte held, where it holds one (R28, R125). -/
theorem ringHeld_release (r : Ring) (v : Byte) (he : r.head ≠ r.tail) (hv : Memory.read r.buf r.tail.toNat = some v) :
    ringHeld r = v :: ringHeld { r with tail := nextIndex r.tail } := by
  have h1 : r.head.toNat ≠ r.tail.toNat := fun e => he (BitVec.eq_of_toNat_eq e)
  have h2 : (r.head - r.tail).toNat = (r.head - nextIndex r.tail).toNat + 1 := by
    simp only [nextIndex, BitVec.toNat_sub, BitVec.toNat_add]
    simp
    omega
  simp only [ringHeld, h2, heldFrom, hv]
  rfl

end Sys2Proof.Machine
end

