-- ==== Sys2Proof/Laws/PerInstr.lean ====
section
/-! SUPPORT. Facts about every operation as syntax, one lemma per constructor of `Instr`. -/

namespace Sys2Proof.Laws

/-- A frame word is read as an operation of the producer, in every context (R85, R285). -/
theorem frame_agent {ctx : DecodeContext} {r : RawWord} {a : Action} {j : Instr}
    (h : decode ctx (.frame r a) = .ok j) : j.agent = .producer := by
  simp only [decode] at h
  split at h <;> simp only [Except.ok.injEq] at h <;> subst h
  · unfold classifyAt; split <;> try split
    all_goals first | rfl | (split <;> rfl)
  · unfold classifyXt; split <;> rfl

/-- A scan-code byte is read as an operation of the consumer, in every context (R85, R285). -/
theorem scan_agent {ctx : DecodeContext} {b : Byte} {j : Instr}
    (h : decode ctx (.scan b) = .ok j) : j.agent = .consumer := by
  simp only [decode, Except.ok.injEq] at h
  subst h
  unfold classifyScan
  split
  · unfold classifySet1; split <;> (repeat' split) <;> rfl
  · unfold classifySet2; split <;> (repeat' split) <;> rfl
  · unfold classifySet3; split <;> (repeat' split) <;> rfl
  · unfold classifyAmiga; split <;> rfl
  · unfold classifyM0110; split <;> (repeat' split) <;> rfl

/-- The context in which the encoding of an operation is run is the operation's own, whatever it is read as (R9, R285). -/
def EncodingKeepsAgent.Statement (i : Instr) : Prop :=
  ∀ (ctx : DecodeContext) (j : Instr), decode ctx (encode i) = .ok j → j.agent = i.agent

theorem EncodingKeepsAgent.rxAtBadStart (w : AtFrame) : Statement (.rxAtBadStart w) := fun _ _ h => frame_agent h
theorem EncodingKeepsAgent.rxAtBadStop (w : AtFrame) : Statement (.rxAtBadStop w) := fun _ _ h => frame_agent h
theorem EncodingKeepsAgent.rxAtBadParity (w : AtFrame) : Statement (.rxAtBadParity w) := fun _ _ h => frame_agent h
theorem EncodingKeepsAgent.rxAtOk (w : AtFrame) (a : Action) : Statement (.rxAtOk w a) := fun _ _ h => frame_agent h
theorem EncodingKeepsAgent.rxXtBadStart (w : XtFrame) : Statement (.rxXtBadStart w) := fun _ _ h => frame_agent h
theorem EncodingKeepsAgent.rxXtOk (w : XtFrame) (a : Action) : Statement (.rxXtOk w a) := fun _ _ h => frame_agent h
theorem EncodingKeepsAgent.setup (proto : Proto) (codeset : CodeSet) : Statement (.setup proto codeset) := by
  intro ctx j h; cases codeset <;> simp [encode, decode, decodeCall, codeSetCode, codeSetOfCode] at h <;> subst h <;> rfl
theorem EncodingKeepsAgent.rxAt (w : AtFrame) (a : Action) : Statement (.rxAt w a) := fun _ _ h => by
  simp [encode, decode, decodeCall] at h; subst h; rfl
theorem EncodingKeepsAgent.rxXt (w : XtFrame) (a : Action) : Statement (.rxXt w a) := fun _ _ h => by
  simp [encode, decode, decodeCall] at h; subst h; rfl
theorem EncodingKeepsAgent.rbIsEmpty : Statement .rbIsEmpty := fun _ _ h => by
  simp [encode, decode, decodeCall] at h; subst h; rfl
theorem EncodingKeepsAgent.rbIsFull : Statement .rbIsFull := fun _ _ h => by
  simp [encode, decode, decodeCall] at h; subst h; rfl
theorem EncodingKeepsAgent.rbPut (b : Byte) : Statement (.rbPut b) := fun _ _ h => by
  simp [encode, decode, decodeCall] at h; subst h; rfl
theorem EncodingKeepsAgent.rbGet : Statement .rbGet := fun _ _ h => by
  simp [encode, decode, decodeCall] at h; subst h; rfl
theorem EncodingKeepsAgent.rbReset : Statement .rbReset := fun _ _ h => by
  simp [encode, decode, decodeCall] at h; subst h; rfl
theorem EncodingKeepsAgent.decFeed (b : Byte) : Statement (.decFeed b) := fun _ _ h => by
  simp [encode, decode, decodeCall] at h; subst h; rfl
theorem EncodingKeepsAgent.taskIter (now : Nat) (ready : Bool) : Statement (.taskIter now ready) := fun _ _ h => by
  simp [encode, decode, decodeCall] at h; subst h; rfl
theorem EncodingKeepsAgent.s1InitOnE0 : Statement .s1InitOnE0 := fun _ _ h => scan_agent h
theorem EncodingKeepsAgent.s1InitOnE1 : Statement .s1InitOnE1 := fun _ _ h => scan_agent h
theorem EncodingKeepsAgent.s1InitOnMake (b : Byte) : Statement (.s1InitOnMake b) := fun _ _ h => scan_agent h
theorem EncodingKeepsAgent.s1InitOnBreak (b : Byte) : Statement (.s1InitOnBreak b) := fun _ _ h => scan_agent h
theorem EncodingKeepsAgent.s1E0OnMake (b : Byte) : Statement (.s1E0OnMake b) := fun _ _ h => scan_agent h
theorem EncodingKeepsAgent.s1E0OnBreak (b : Byte) : Statement (.s1E0OnBreak b) := fun _ _ h => scan_agent h
theorem EncodingKeepsAgent.s1E1On1d : Statement .s1E1On1d := fun _ _ h => scan_agent h
theorem EncodingKeepsAgent.s1E1On9d : Statement .s1E1On9d := fun _ _ h => scan_agent h
theorem EncodingKeepsAgent.s1E1OnOther (b : Byte) : Statement (.s1E1OnOther b) := fun _ _ h => scan_agent h
theorem EncodingKeepsAgent.s1E1x1DOn45 : Statement .s1E1x1DOn45 := fun _ _ h => scan_agent h
theorem EncodingKeepsAgent.s1E1x1DOnOther (b : Byte) : Statement (.s1E1x1DOnOther b) := fun _ _ h => scan_agent h
theorem EncodingKeepsAgent.s1E1x9DOnC5 : Statement .s1E1x9DOnC5 := fun _ _ h => scan_agent h
theorem EncodingKeepsAgent.s1E1x9DOnOther (b : Byte) : Statement (.s1E1x9DOnOther b) := fun _ _ h => scan_agent h
theorem EncodingKeepsAgent.s2InitOnE0 : Statement .s2InitOnE0 := fun _ _ h => scan_agent h
theorem EncodingKeepsAgent.s2InitOnF0 : Statement .s2InitOnF0 := fun _ _ h => scan_agent h
theorem EncodingKeepsAgent.s2InitOnE1 : Statement .s2InitOnE1 := fun _ _ h => scan_agent h
theorem EncodingKeepsAgent.s2InitOnA83 : Statement .s2InitOnA83 := fun _ _ h => scan_agent h
theorem EncodingKeepsAgent.s2InitOnA84 : Statement .s2InitOnA84 := fun _ _ h => scan_agent h
theorem EncodingKeepsAgent.s2InitOnMake (b : Byte) : Statement (.s2InitOnMake b) := fun _ _ h => scan_agent h
theorem EncodingKeepsAgent.s2InitOnOther (b : Byte) : Statement (.s2InitOnOther b) := fun _ _ h => scan_agent h
theorem EncodingKeepsAgent.s2F0OnA83 : Statement .s2F0OnA83 := fun _ _ h => scan_agent h
theorem EncodingKeepsAgent.s2F0OnA84 : Statement .s2F0OnA84 := fun _ _ h => scan_agent h
theorem EncodingKeepsAgent.s2F0OnBreak (b : Byte) : Statement (.s2F0OnBreak b) := fun _ _ h => scan_agent h
theorem EncodingKeepsAgent.s2F0OnOther (b : Byte) : Statement (.s2F0OnOther b) := fun _ _ h => scan_agent h
theorem EncodingKeepsAgent.s2E0OnF0 : Statement .s2E0OnF0 := fun _ _ h => scan_agent h
theorem EncodingKeepsAgent.s2E0OnKey (b : Byte) : Statement (.s2E0OnKey b) := fun _ _ h => scan_agent h
theorem EncodingKeepsAgent.s2E0OnOther (b : Byte) : Statement (.s2E0OnOther b) := fun _ _ h => scan_agent h
theorem EncodingKeepsAgent.s2E0F0OnKey (b : Byte) : Statement (.s2E0F0OnKey b) := fun _ _ h => scan_agent h
theorem EncodingKeepsAgent.s2E0F0OnOther (b : Byte) : Statement (.s2E0F0OnOther b) := fun _ _ h => scan_agent h
theorem EncodingKeepsAgent.s2E1On14 : Statement .s2E1On14 := fun _ _ h => scan_agent h
theorem EncodingKeepsAgent.s2E1OnF0 : Statement .s2E1OnF0 := fun _ _ h => scan_agent h
theorem EncodingKeepsAgent.s2E1OnOther (b : Byte) : Statement (.s2E1OnOther b) := fun _ _ h => scan_agent h
theorem EncodingKeepsAgent.s2E1x14On77 : Statement .s2E1x14On77 := fun _ _ h => scan_agent h
theorem EncodingKeepsAgent.s2E1x14OnOther (b : Byte) : Statement (.s2E1x14OnOther b) := fun _ _ h => scan_agent h
theorem EncodingKeepsAgent.s2E1F0On14 : Statement .s2E1F0On14 := fun _ _ h => scan_agent h
theorem EncodingKeepsAgent.s2E1F0OnOther (b : Byte) : Statement (.s2E1F0OnOther b) := fun _ _ h => scan_agent h
theorem EncodingKeepsAgent.s2E1F0x14OnF0 : Statement .s2E1F0x14OnF0 := fun _ _ h => scan_agent h
theorem EncodingKeepsAgent.s2E1F0x14OnOther (b : Byte) : Statement (.s2E1F0x14OnOther b) := fun _ _ h => scan_agent h
theorem EncodingKeepsAgent.s2E1F0x14F0On77 : Statement .s2E1F0x14F0On77 := fun _ _ h => scan_agent h
theorem EncodingKeepsAgent.s2E1F0x14F0OnOther (b : Byte) : Statement (.s2E1F0x14F0OnOther b) := fun _ _ h => scan_agent h
theorem EncodingKeepsAgent.s3InitOnF0 : Statement .s3InitOnF0 := fun _ _ h => scan_agent h
theorem EncodingKeepsAgent.s3InitOnRemap (b : Byte) : Statement (.s3InitOnRemap b) := fun _ _ h => scan_agent h
theorem EncodingKeepsAgent.s3InitOnMake (b : Byte) : Statement (.s3InitOnMake b) := fun _ _ h => scan_agent h
theorem EncodingKeepsAgent.s3InitOnOther (b : Byte) : Statement (.s3InitOnOther b) := fun _ _ h => scan_agent h
theorem EncodingKeepsAgent.s3F0OnRemap (b : Byte) : Statement (.s3F0OnRemap b) := fun _ _ h => scan_agent h
theorem EncodingKeepsAgent.s3F0OnBreak (b : Byte) : Statement (.s3F0OnBreak b) := fun _ _ h => scan_agent h
theorem EncodingKeepsAgent.s3F0OnOther (b : Byte) : Statement (.s3F0OnOther b) := fun _ _ h => scan_agent h
theorem EncodingKeepsAgent.amInitOnKey (b : Byte) : Statement (.amInitOnKey b) := fun _ _ h => scan_agent h
theorem EncodingKeepsAgent.amInitOnReject (b : Byte) : Statement (.amInitOnReject b) := fun _ _ h => scan_agent h
theorem EncodingKeepsAgent.m0InitOnBad0 (b : Byte) : Statement (.m0InitOnBad0 b) := fun _ _ h => scan_agent h
theorem EncodingKeepsAgent.m0InitOnP79 : Statement .m0InitOnP79 := fun _ _ h => scan_agent h
theorem EncodingKeepsAgent.m0InitOnP71 : Statement .m0InitOnP71 := fun _ _ h => scan_agent h
theorem EncodingKeepsAgent.m0InitOnKey (b : Byte) : Statement (.m0InitOnKey b) := fun _ _ h => scan_agent h
theorem EncodingKeepsAgent.m0P79OnBad0 (b : Byte) : Statement (.m0P79OnBad0 b) := fun _ _ h => scan_agent h
theorem EncodingKeepsAgent.m0P79OnKey (b : Byte) : Statement (.m0P79OnKey b) := fun _ _ h => scan_agent h
theorem EncodingKeepsAgent.m0P71OnBad0 (b : Byte) : Statement (.m0P71OnBad0 b) := fun _ _ h => scan_agent h
theorem EncodingKeepsAgent.m0P71On79 : Statement .m0P71On79 := fun _ _ h => scan_agent h
theorem EncodingKeepsAgent.m0P71OnOther (b : Byte) : Statement (.m0P71OnOther b) := fun _ _ h => scan_agent h
theorem EncodingKeepsAgent.m0P71x79OnBad0 (b : Byte) : Statement (.m0P71x79OnBad0 b) := fun _ _ h => scan_agent h
theorem EncodingKeepsAgent.m0P71x79OnKey (b : Byte) : Statement (.m0P71x79OnKey b) := fun _ _ h => scan_agent h

end Sys2Proof.Laws
end

