-- ==== Sys2Proof/Laws/Pipeline.lean ====
section
/-! SUPPORT. What `RB.GET` and `TASK.ITER` do under every interleaving with the producer (R10), said once. -/

namespace Sys2Proof.Machine

theorem BoundaryFrame.trans {s t u : State} (h : BoundaryFrame s t) (k : BoundaryFrame t u) : BoundaryFrame s u :=
  ⟨k.proto.trans h.proto, k.framing.trans h.framing, k.tables.trans h.tables, k.setupDone.trans h.setupDone,
    k.dec.trans h.dec, k.irqEn.trans h.irqEn, k.agenda.trans h.agenda, k.hid.trans h.hid, k.result.trans h.result,
    k.freeCount.trans h.freeCount, k.tail.trans h.tail⟩

/-- `RB.GET` on an empty ring gives a free byte that is not valid, and leaves the ring alone (R125, U2). -/
theorem ringGet_empty (s : State) (h : s.rb.head = s.rb.tail) :
    ringGet s = (s.useFree, Config.freeByte s.freeCount, false) := by
  simp [ringGet, rbEmpty, h, takeFree]

/-- `RB.GET` on a ring whose oldest slot holds `v` gives `v`, valid, whatever the producer puts meanwhile (R10, R125). -/
theorem ringGet_some (s : State) (v : Byte) (he : s.rb.head ≠ s.rb.tail)
    (hv : Memory.read s.rb.buf s.rb.tail.toNat = some v) :
    (ringGet s).2 = (v, true) ∧
      (ringGet s).1 = (preempt (preempt s)).setTail (nextIndex s.rb.tail) ∧
      ∃ bs : List Byte, (ringGet s).1.rb = { bs.foldl ringAdd s.rb with tail := nextIndex s.rb.tail } := by
  obtain ⟨f1, bs1, r1⟩ := preempt_spec s
  obtain ⟨f2, bs2, r2⟩ := preempt_spec (preempt s)
  obtain ⟨k1, k2, k3⟩ := ringAdds_keep_oldest bs1 s.rb he
  rw [← r1] at k1 k2 k3
  have hr : readSlot (preempt s) = (v, preempt s) := by simp [readSlot, k1, k3, hv]
  have ht : (preempt (preempt s)).rb.tail = s.rb.tail := f2.tail.trans f1.tail
  have hg : ringGet s = (releaseSlot (preempt (preempt s)), v, true) := by simp [ringGet, rbEmpty, he, hr]
  rw [hg]
  refine ⟨rfl, by simp [releaseSlot, ht], bs1 ++ bs2, ?_⟩
  simp only [releaseSlot, State.setTail, ht, List.foldl_append, ← r1, ← r2]

/-- A get while bytes are put takes the oldest byte held and loses none (R10, R28, R125). -/
theorem ringHeld_get (r : Ring) (v : Byte) (bs : List Byte) (he : r.head ≠ r.tail)
    (hv : Memory.read r.buf r.tail.toNat = some v) :
    ∃ put : List Byte, ringHeld r ++ put = v :: ringHeld { bs.foldl ringAdd r with tail := nextIndex r.tail } ∧
      (bs.foldl ringAdd r).head = r.head + BitVec.ofNat 5 put.length := by
  obtain ⟨put, h1, h2⟩ := ringAdds_held bs r
  obtain ⟨k1, k2, k3⟩ := ringAdds_keep_oldest bs r he
  refine ⟨put, ?_, h2⟩
  have h3 := ringHeld_release (bs.foldl ringAdd r) v (by rw [k1]; exact k2) (by rw [k1, k3, hv])
  rw [← h1, h3, k1]

/-- Delivering an event appends it to `hid`; the producer may run before (R236). -/
theorem deliverEvent_spec (e : Option KeyEvent) (s : State) :
    ∃ bs : List Byte, (deliverEvent e s).rb = bs.foldl ringAdd s.rb ∧ (deliverEvent e s).dec = s.dec ∧
      (deliverEvent e s).out.hid = s.out.hid ++ e.toList ∧ (deliverEvent e s).tables = s.tables ∧
      (deliverEvent e s).framing = s.framing ∧ (deliverEvent e s).proto = s.proto := by
  cases e with
  | none => exact ⟨[], by simp [deliverEvent]⟩
  | some ev =>
    obtain ⟨f, bs, r⟩ := preempt_spec s
    exact ⟨bs, by simp [deliverEvent, r, f.dec, f.hid, f.tables, f.framing, f.proto]⟩

/-- A drained byte, micro-step by micro-step: the boundaries before and inside `RB.GET`, the release of the slot, a boundary,
and the byte `v` fed and its event delivered (R125, R236). -/
theorem drain_eq (s : State) (v : Byte) (he : s.rb.head ≠ s.rb.tail)
    (hv : Memory.read s.rb.buf s.rb.tail.toNat = some v) :
    drain s = deliverEvent (stepDecoder s.tables s.dec v).event
      (feed v (preempt ((preempt (preempt (preempt s))).setTail (nextIndex s.rb.tail)))) := by
  obtain ⟨f1, bs1, r1⟩ := preempt_spec s
  obtain ⟨k1, k2, k3⟩ := ringAdds_keep_oldest bs1 s.rb he
  rw [← r1] at k1 k2 k3
  obtain ⟨g1, g2, _⟩ := ringGet_some (preempt s) v (by rw [k1]; exact k2) (by rw [k1, k3, hv])
  have fr : BoundaryFrame s (preempt (preempt (preempt s))) :=
    (f1.trans (preempt_spec _).1).trans (preempt_spec _).1
  have f4 := (preempt_spec ((preempt (preempt (preempt s))).setTail (nextIndex s.rb.tail))).1
  rw [f1.tail] at g2
  have hd : drain s = deliverEvent (feedEvent v (preempt (ringGet (preempt s)).1)) (feed v (preempt (ringGet (preempt s)).1)) := by
    simp [drain, rbEmpty, he, g1]
  rw [hd, g2, feedEvent, f4.tables, f4.dec]
  simp only [setTail_tables, setTail_dec, fr.tables, fr.dec]

/-- What one drained byte does, whatever the producer puts meanwhile: the oldest byte `v` leaves the ring, the decoder is
fed with it, and its event is delivered (R10, R236, R238, R239). -/
theorem drain_some (s : State) (v : Byte) (he : s.rb.head ≠ s.rb.tail)
    (hv : Memory.read s.rb.buf s.rb.tail.toNat = some v) :
    (drain s).dec = (stepDecoder s.tables s.dec v).next ∧
      (drain s).out.hid = s.out.hid ++ (stepDecoder s.tables s.dec v).event.toList ∧
      (drain s).tables = s.tables ∧ (drain s).framing = s.framing ∧ (drain s).proto = s.proto ∧
      (drain s).rb.tail = nextIndex s.rb.tail ∧
      ∃ put : List Byte, ringHeld s.rb ++ put = v :: ringHeld (drain s).rb ∧
        (drain s).rb.head = s.rb.head + BitVec.ofNat 5 put.length := by
  obtain ⟨f1, bs1, r1⟩ := preempt_spec s
  obtain ⟨k1, k2, k3⟩ := ringAdds_keep_oldest bs1 s.rb he
  rw [← r1] at k1 k2 k3
  obtain ⟨g1, g2, bs2, g3⟩ := ringGet_some (preempt s) v (by rw [k1]; exact k2) (by rw [k1, k3, hv])
  obtain ⟨f2, _⟩ := preempt_spec (preempt s)
  obtain ⟨f3, _⟩ := preempt_spec (preempt (preempt s))
  obtain ⟨f4, bs4, r4⟩ := preempt_spec (ringGet (preempt s)).1
  have fg : BoundaryFrame s (preempt (preempt (preempt s))) := (f1.trans f2).trans f3
  have hd : drain s = deliverEvent (feedEvent v (preempt (ringGet (preempt s)).1)) (feed v (preempt (ringGet (preempt s)).1)) := by
    simp [drain, rbEmpty, he, g1]
  obtain ⟨ds, hfeed⟩ := feed_frame v (preempt (ringGet (preempt s)).1)
  obtain ⟨bs5, d1, d2, d3, d4, d5, d6⟩ :=
    deliverEvent_spec (feedEvent v (preempt (ringGet (preempt s)).1)) (feed v (preempt (ringGet (preempt s)).1))
  have e1 : (preempt (ringGet (preempt s)).1).dec = s.dec := by rw [f4.dec, g2]; exact fg.dec
  have e2 : (preempt (ringGet (preempt s)).1).tables = s.tables := by rw [f4.tables, g2]; exact fg.tables
  have e3 : (preempt (ringGet (preempt s)).1).framing = s.framing := by rw [f4.framing, g2]; exact fg.framing
  have e4 : (preempt (ringGet (preempt s)).1).proto = s.proto := by rw [f4.proto, g2]; exact fg.proto
  have e5 : (preempt (ringGet (preempt s)).1).out.hid = s.out.hid := by rw [f4.hid, g2]; exact fg.hid
  have e6 : (ringGet (preempt s)).1.rb = { (bs1 ++ bs2).foldl ringAdd s.rb with tail := nextIndex s.rb.tail } := by
    rw [g3, f1.tail, r1, List.foldl_append]
  have e7 : (drain s).rb = (bs4 ++ bs5).foldl ringAdd (ringGet (preempt s)).1.rb := by
    rw [hd, d1, hfeed, List.foldl_append, ← r4]
  refine ⟨?_, ?_, ?_, ?_, ?_, ?_, ?_⟩
  · rw [hd, d2, feed_dec, e1, e2]
  · rw [hd, d3, hfeed]; simp only [e5, feedEvent, e1, e2]
  · rw [hd, d4, hfeed]; exact e2
  · rw [hd, d5, hfeed]; exact e3
  · rw [hd, d6, hfeed]; exact e4
  · rw [e7, ringAdds_tail, e6]
  · obtain ⟨put1, p1, p2⟩ := ringHeld_get s.rb v (bs1 ++ bs2) he hv
    obtain ⟨put2, q1, q2⟩ := ringAdds_held (bs4 ++ bs5) (ringGet (preempt s)).1.rb
    refine ⟨put1 ++ put2, ?_, ?_⟩
    · rw [e7, q1, e6, ← List.append_assoc, p1, List.cons_append]
    · rw [e7, q2, e6]
      simp only [p2, List.length_append]
      apply BitVec.eq_of_toNat_eq; simp; omega

end Sys2Proof.Machine
end

