-- ==== Sys2Proof/Tests/Slice0.lean ====
section
/-! SUPPORT. The model's own tests: ill-formed operations, the decoding of words written out from the spec, single steps
with the results of the spec's vectors (95_test_vectors.md, 96_test_vectors_decoders.md), and, for each statement with
hypotheses, states and operands that meet them. -/

namespace Sys2Proof.Tests

open Sys2Proof Sys2Proof.Machine

/-- The fixture of 95_test_vectors.md section 0: invented there for the vectors, no value of the hardware. -/
def fixture : Tables :=
  { set1E0 := [(0x1D#8, 0xC1#8), (0x1C#8, 0xCC#8), (0x38#8, 0xC2#8), (0x48#8, 0xC8#8)], set1Pause := 0xC6#8
    set2E0 := [(0x75#8, 0xD5#8), (0x14#8, 0xD4#8), (0x5A#8, 0xDA#8), (0x11#8, 0xD1#8)], set2Pause := 0xD7#8
    set2Alias83 := 0x02#8, set2Alias84 := 0x7F#8
    set3Remap := { first := (0x7C#8, 0x68#8), second := (0x7E#8, 0x69#8), third := (0x84#8, 0x6A#8) }
    amigaMaxKey := 0x67#7
    m0110Map79 := [(0x06#6, 0x46#8), (0x0D#6, 0x4D#8), (0x1B#6, 0x5B#8)]
    m0110Map7179 := [(0x06#6, 0x86#8), (0x0D#6, 0x8D#8)] }

/-- The state after `SETUP`, with the fixture, in a decoder state. -/
def at' (d : DecState) : State := { State.reset with tables := fixture, dec := d }

/-- As after `SETUP AT_PS2 SET2`. -/
def s2 : State := at' (.set2 .init)

/-- As after `SETUP XT SET1`. -/
def x1 : State := { at' (.set1 .init) with proto := .xt }

/-- The indices at given places and one byte in a slot. -/
def ringAt (h t : Index) (a : Nat) (v : Byte) : State := { s2 with rb := { buf := [(a, v)], head := h, tail := t } }

/-- A state whose next events are given. -/
def withAgenda (l : List Event) (s : State) : State := s.setAgenda l

/-- A state with a schedule and with words waiting in the receiver. -/
def scheduled (l : List Nat) (w : List Frame) (s : State) : State := (s.setPreempts l).setRcv w

/-- The AT/PS2 word of 0x1C: start 0, data, parity 0, stop 1. -/
def word1C : Frame := { raw := 0x438#16, answer := .enqueueForDecoding }

/-- The AT/PS2 word of 0xF0: start 0, data, parity 1, stop 1. -/
def wordF0 : Frame := { raw := 0x7E0#16, answer := .enqueueForDecoding }

/-- What a step ends in, as far as these tests look. -/
def stops (o : Host.Outcome State Fault Refusal) : Option Refusal :=
  match o with
  | .refused r => some r
  | _ => none

/-! ## Ill-formed operations are refused -/

theorem test_illFormed_rxAtBadStart : Instr.wf Config.framing fixture (.rxAtBadStart 0x438#11) = false := by decide
theorem test_illFormed_rxAtBadStop : Instr.wf Config.framing fixture (.rxAtBadStop 0x438#11) = false := by decide
theorem test_illFormed_rxAtBadParity : Instr.wf Config.framing fixture (.rxAtBadParity 0x438#11) = false := by decide
theorem test_illFormed_rxAtOk : Instr.wf Config.framing fixture (.rxAtOk 0x638#11 .none) = false := by decide
theorem test_illFormed_rxXtBadStart : Instr.wf Config.framing fixture (.rxXtBadStart 0x155#9) = false := by decide
theorem test_illFormed_rxXtOk : Instr.wf Config.framing fixture (.rxXtOk 0x154#9 .none) = false := by decide
theorem test_illFormed_s1InitOnMake : Instr.wf Config.framing fixture (.s1InitOnMake 0x80#8) = false := by decide
theorem test_illFormed_s1InitOnBreak : Instr.wf Config.framing fixture (.s1InitOnBreak 0xE1#8) = false := by decide
theorem test_illFormed_s1E0OnMake : Instr.wf Config.framing fixture (.s1E0OnMake 0x80#8) = false := by decide
theorem test_illFormed_s1E0OnBreak : Instr.wf Config.framing fixture (.s1E0OnBreak 0x7F#8) = false := by decide
theorem test_illFormed_s1E1OnOther : Instr.wf Config.framing fixture (.s1E1OnOther 0x9D#8) = false := by decide
theorem test_illFormed_s1E1x1DOnOther : Instr.wf Config.framing fixture (.s1E1x1DOnOther 0x45#8) = false := by decide
theorem test_illFormed_s1E1x9DOnOther : Instr.wf Config.framing fixture (.s1E1x9DOnOther 0xC5#8) = false := by decide
theorem test_illFormed_s2InitOnMake : Instr.wf Config.framing fixture (.s2InitOnMake 0x80#8) = false := by decide
theorem test_illFormed_s2InitOnOther : Instr.wf Config.framing fixture (.s2InitOnOther 0x84#8) = false := by decide
theorem test_illFormed_s2F0OnBreak : Instr.wf Config.framing fixture (.s2F0OnBreak 0x83#8) = false := by decide
theorem test_illFormed_s2F0OnOther : Instr.wf Config.framing fixture (.s2F0OnOther 0x83#8) = false := by decide
theorem test_illFormed_s2E0OnKey : Instr.wf Config.framing fixture (.s2E0OnKey 0x80#8) = false := by decide
theorem test_illFormed_s2E0OnOther : Instr.wf Config.framing fixture (.s2E0OnOther 0xF0#8) = false := by decide
theorem test_illFormed_s2E0F0OnKey : Instr.wf Config.framing fixture (.s2E0F0OnKey 0x80#8) = false := by decide
theorem test_illFormed_s2E0F0OnOther : Instr.wf Config.framing fixture (.s2E0F0OnOther 0x7F#8) = false := by decide
theorem test_illFormed_s2E1OnOther : Instr.wf Config.framing fixture (.s2E1OnOther 0xF0#8) = false := by decide
theorem test_illFormed_s2E1x14OnOther : Instr.wf Config.framing fixture (.s2E1x14OnOther 0x77#8) = false := by decide
theorem test_illFormed_s2E1F0OnOther : Instr.wf Config.framing fixture (.s2E1F0OnOther 0x14#8) = false := by decide
theorem test_illFormed_s2E1F0x14OnOther : Instr.wf Config.framing fixture (.s2E1F0x14OnOther 0xF0#8) = false := by decide
theorem test_illFormed_s2E1F0x14F0OnOther : Instr.wf Config.framing fixture (.s2E1F0x14F0OnOther 0x77#8) = false := by decide
theorem test_illFormed_s3InitOnRemap : Instr.wf Config.framing fixture (.s3InitOnRemap 0x7D#8) = false := by decide
theorem test_illFormed_s3InitOnMake : Instr.wf Config.framing fixture (.s3InitOnMake 0x7E#8) = false := by decide
theorem test_illFormed_s3InitOnOther : Instr.wf Config.framing fixture (.s3InitOnOther 0x84#8) = false := by decide
theorem test_illFormed_s3F0OnRemap : Instr.wf Config.framing fixture (.s3F0OnRemap 0x7D#8) = false := by decide
theorem test_illFormed_s3F0OnBreak : Instr.wf Config.framing fixture (.s3F0OnBreak 0x7E#8) = false := by decide
theorem test_illFormed_s3F0OnOther : Instr.wf Config.framing fixture (.s3F0OnOther 0x84#8) = false := by decide
theorem test_illFormed_amInitOnKey : Instr.wf Config.framing fixture (.amInitOnKey 0x68#8) = false := by decide
theorem test_illFormed_amInitOnReject : Instr.wf Config.framing fixture (.amInitOnReject 0xE7#8) = false := by decide
theorem test_illFormed_m0InitOnBad0 : Instr.wf Config.framing fixture (.m0InitOnBad0 0x01#8) = false := by decide
theorem test_illFormed_m0InitOnKey : Instr.wf Config.framing fixture (.m0InitOnKey 0x71#8) = false := by decide
theorem test_illFormed_m0P79OnBad0 : Instr.wf Config.framing fixture (.m0P79OnBad0 0x01#8) = false := by decide
theorem test_illFormed_m0P79OnKey : Instr.wf Config.framing fixture (.m0P79OnKey 0x0C#8) = false := by decide
theorem test_illFormed_m0P71OnBad0 : Instr.wf Config.framing fixture (.m0P71OnBad0 0x01#8) = false := by decide
theorem test_illFormed_m0P71OnOther : Instr.wf Config.framing fixture (.m0P71OnOther 0x79#8) = false := by decide
theorem test_illFormed_m0P71x79OnBad0 : Instr.wf Config.framing fixture (.m0P71x79OnBad0 0x01#8) = false := by decide
theorem test_illFormed_m0P71x79OnKey : Instr.wf Config.framing fixture (.m0P71x79OnKey 0x0C#8) = false := by decide

/-! ## Decoding: words and bytes written out from the encodings of the spec (sections 2.1, 2.2 and 2.5 to 2.9 of the
vectors) -/

/-- 0x439 is stop 1, parity 0, data 00011100, start 1. -/
theorem test_decode_rxAtBadStart : decode s2.context (.frame 0b10000111001#16 .none) = .ok (.rxAtBadStart 0x439#11) := rfl
theorem test_decode_rxAtBadStop : decode s2.context (.frame 0b00000111000#16 .none) = .ok (.rxAtBadStop 0x038#11) := rfl
theorem test_decode_rxAtBadParity : decode s2.context (.frame 0b11000111000#16 .none) = .ok (.rxAtBadParity 0x638#11) := rfl
theorem test_decode_rxAtOk : decode s2.context (.frame 0b10000111000#16 .none) = .ok (.rxAtOk 0x438#11 .none) := rfl
theorem test_decode_rxAtOk_container : decode s2.context (.frame 0xFC38#16 .none) = .ok (.rxAtOk 0x438#11 .none) := rfl
theorem test_decode_rxXtBadStart : decode x1.context (.frame 0b010001010#16 .none) = .ok (.rxXtBadStart 0x08A#9) := rfl
theorem test_decode_rxXtOk : decode x1.context (.frame 0b101010101#16 .none) = .ok (.rxXtOk 0x155#9 .none) := rfl
theorem test_decode_setup : decode s2.context (.call (.setup 0b1#1 0b100#3)) = .ok (.setup .xt .m0110) := rfl
theorem test_decode_setup_badCodeSet : decode s2.context (.call (.setup 0b0#1 0b101#3)) = .error (.badCodeSet 5#3) := rfl
theorem test_decode_rxAt : decode s2.context (.call (.rxAt 0x438#11 .none)) = .ok (.rxAt 0x438#11 .none) := rfl
theorem test_decode_rxXt : decode s2.context (.call (.rxXt 0x155#9 .none)) = .ok (.rxXt 0x155#9 .none) := rfl
theorem test_decode_rbIsEmpty : decode s2.context (.call .rbIsEmpty) = .ok .rbIsEmpty := rfl
theorem test_decode_rbIsFull : decode s2.context (.call .rbIsFull) = .ok .rbIsFull := rfl
theorem test_decode_rbPut : decode s2.context (.call (.rbPut 0x1C#8)) = .ok (.rbPut 0x1C#8) := rfl
theorem test_decode_rbGet : decode s2.context (.call .rbGet) = .ok .rbGet := rfl
theorem test_decode_rbReset : decode s2.context (.call .rbReset) = .ok .rbReset := rfl
theorem test_decode_decFeed : decode s2.context (.call (.decFeed 0x1C#8)) = .ok (.decFeed 0x1C#8) := rfl
theorem test_decode_taskIter : decode s2.context (.call (.taskIter 7 true)) = .ok (.taskIter 7 true) := rfl

theorem test_decode_s1InitOnE0 : decode (at' (.set1 .init)).context (.scan 0b11100000#8) = .ok .s1InitOnE0 := rfl
theorem test_decode_s1InitOnE1 : decode (at' (.set1 .init)).context (.scan 0b11100001#8) = .ok .s1InitOnE1 := rfl
theorem test_decode_s1InitOnMake : decode (at' (.set1 .init)).context (.scan 0b01111111#8) = .ok (.s1InitOnMake 0x7F#8) := rfl
theorem test_decode_s1InitOnBreak : decode (at' (.set1 .init)).context (.scan 0b11111111#8) = .ok (.s1InitOnBreak 0xFF#8) := rfl
theorem test_decode_s1E0OnMake : decode (at' (.set1 .e0)).context (.scan 0b01001000#8) = .ok (.s1E0OnMake 0x48#8) := rfl
theorem test_decode_s1E0OnBreak : decode (at' (.set1 .e0)).context (.scan 0b10011101#8) = .ok (.s1E0OnBreak 0x9D#8) := rfl
theorem test_decode_s1E1On1d : decode (at' (.set1 .e1)).context (.scan 0b00011101#8) = .ok .s1E1On1d := rfl
theorem test_decode_s1E1On9d : decode (at' (.set1 .e1)).context (.scan 0b10011101#8) = .ok .s1E1On9d := rfl
theorem test_decode_s1E1OnOther : decode (at' (.set1 .e1)).context (.scan 0b11100001#8) = .ok (.s1E1OnOther 0xE1#8) := rfl
theorem test_decode_s1E1x1DOn45 : decode (at' (.set1 .e1x1D)).context (.scan 0b01000101#8) = .ok .s1E1x1DOn45 := rfl
theorem test_decode_s1E1x1DOnOther : decode (at' (.set1 .e1x1D)).context (.scan 0b00011101#8) = .ok (.s1E1x1DOnOther 0x1D#8) := rfl
theorem test_decode_s1E1x9DOnC5 : decode (at' (.set1 .e1x9D)).context (.scan 0b11000101#8) = .ok .s1E1x9DOnC5 := rfl
theorem test_decode_s1E1x9DOnOther : decode (at' (.set1 .e1x9D)).context (.scan 0b01000101#8) = .ok (.s1E1x9DOnOther 0x45#8) := rfl
theorem test_decode_s2InitOnE0 : decode (at' (.set2 .init)).context (.scan 0b11100000#8) = .ok .s2InitOnE0 := rfl
theorem test_decode_s2InitOnF0 : decode (at' (.set2 .init)).context (.scan 0b11110000#8) = .ok .s2InitOnF0 := rfl
theorem test_decode_s2InitOnE1 : decode (at' (.set2 .init)).context (.scan 0b11100001#8) = .ok .s2InitOnE1 := rfl
theorem test_decode_s2InitOnA83 : decode (at' (.set2 .init)).context (.scan 0b10000011#8) = .ok .s2InitOnA83 := rfl
theorem test_decode_s2InitOnA84 : decode (at' (.set2 .init)).context (.scan 0b10000100#8) = .ok .s2InitOnA84 := rfl
theorem test_decode_s2InitOnMake : decode (at' (.set2 .init)).context (.scan 0b00011100#8) = .ok (.s2InitOnMake 0x1C#8) := rfl
theorem test_decode_s2InitOnOther : decode (at' (.set2 .init)).context (.scan 0b10000000#8) = .ok (.s2InitOnOther 0x80#8) := rfl
theorem test_decode_s2F0OnA83 : decode (at' (.set2 .f0)).context (.scan 0b10000011#8) = .ok .s2F0OnA83 := rfl
theorem test_decode_s2F0OnA84 : decode (at' (.set2 .f0)).context (.scan 0b10000100#8) = .ok .s2F0OnA84 := rfl
theorem test_decode_s2F0OnBreak : decode (at' (.set2 .f0)).context (.scan 0b00011100#8) = .ok (.s2F0OnBreak 0x1C#8) := rfl
theorem test_decode_s2F0OnOther : decode (at' (.set2 .f0)).context (.scan 0b11110000#8) = .ok (.s2F0OnOther 0xF0#8) := rfl
theorem test_decode_s2E0OnF0 : decode (at' (.set2 .e0)).context (.scan 0b11110000#8) = .ok .s2E0OnF0 := rfl
theorem test_decode_s2E0OnKey : decode (at' (.set2 .e0)).context (.scan 0b01110101#8) = .ok (.s2E0OnKey 0x75#8) := rfl
theorem test_decode_s2E0OnOther : decode (at' (.set2 .e0)).context (.scan 0b11100000#8) = .ok (.s2E0OnOther 0xE0#8) := rfl
theorem test_decode_s2E0F0OnKey : decode (at' (.set2 .e0F0)).context (.scan 0b01110101#8) = .ok (.s2E0F0OnKey 0x75#8) := rfl
theorem test_decode_s2E0F0OnOther : decode (at' (.set2 .e0F0)).context (.scan 0b11110000#8) = .ok (.s2E0F0OnOther 0xF0#8) := rfl
theorem test_decode_s2E1On14 : decode (at' (.set2 .e1)).context (.scan 0b00010100#8) = .ok .s2E1On14 := rfl
theorem test_decode_s2E1OnF0 : decode (at' (.set2 .e1)).context (.scan 0b11110000#8) = .ok .s2E1OnF0 := rfl
theorem test_decode_s2E1OnOther : decode (at' (.set2 .e1)).context (.scan 0b10011001#8) = .ok (.s2E1OnOther 0x99#8) := rfl
theorem test_decode_s2E1x14On77 : decode (at' (.set2 .e1x14)).context (.scan 0b01110111#8) = .ok .s2E1x14On77 := rfl
theorem test_decode_s2E1x14OnOther : decode (at' (.set2 .e1x14)).context (.scan 0b00010100#8) = .ok (.s2E1x14OnOther 0x14#8) := rfl
theorem test_decode_s2E1F0On14 : decode (at' (.set2 .e1F0)).context (.scan 0b00010100#8) = .ok .s2E1F0On14 := rfl
theorem test_decode_s2E1F0OnOther : decode (at' (.set2 .e1F0)).context (.scan 0b01110111#8) = .ok (.s2E1F0OnOther 0x77#8) := rfl
theorem test_decode_s2E1F0x14OnF0 : decode (at' (.set2 .e1F0x14)).context (.scan 0b11110000#8) = .ok .s2E1F0x14OnF0 := rfl
theorem test_decode_s2E1F0x14OnOther : decode (at' (.set2 .e1F0x14)).context (.scan 0b01110111#8) = .ok (.s2E1F0x14OnOther 0x77#8) := rfl
theorem test_decode_s2E1F0x14F0On77 : decode (at' (.set2 .e1F0x14F0)).context (.scan 0b01110111#8) = .ok .s2E1F0x14F0On77 := rfl
theorem test_decode_s2E1F0x14F0OnOther : decode (at' (.set2 .e1F0x14F0)).context (.scan 0b00010100#8) = .ok (.s2E1F0x14F0OnOther 0x14#8) := rfl
theorem test_decode_s3InitOnF0 : decode (at' (.set3 .init)).context (.scan 0b11110000#8) = .ok .s3InitOnF0 := rfl
theorem test_decode_s3InitOnRemap : decode (at' (.set3 .init)).context (.scan 0b10000100#8) = .ok (.s3InitOnRemap 0x84#8) := rfl
theorem test_decode_s3InitOnMake : decode (at' (.set3 .init)).context (.scan 0b00011100#8) = .ok (.s3InitOnMake 0x1C#8) := rfl
theorem test_decode_s3InitOnOther : decode (at' (.set3 .init)).context (.scan 0b10000011#8) = .ok (.s3InitOnOther 0x83#8) := rfl
theorem test_decode_s3F0OnRemap : decode (at' (.set3 .f0)).context (.scan 0b10000100#8) = .ok (.s3F0OnRemap 0x84#8) := rfl
theorem test_decode_s3F0OnBreak : decode (at' (.set3 .f0)).context (.scan 0b00011100#8) = .ok (.s3F0OnBreak 0x1C#8) := rfl
theorem test_decode_s3F0OnOther : decode (at' (.set3 .f0)).context (.scan 0b11110000#8) = .ok (.s3F0OnOther 0xF0#8) := rfl
theorem test_decode_amInitOnKey : decode (at' (.amiga .init)).context (.scan 0b11100111#8) = .ok (.amInitOnKey 0xE7#8) := rfl
theorem test_decode_amInitOnReject : decode (at' (.amiga .init)).context (.scan 0b11101000#8) = .ok (.amInitOnReject 0xE8#8) := rfl
theorem test_decode_m0InitOnBad0 : decode (at' (.m0110 .init)).context (.scan 0b00110010#8) = .ok (.m0InitOnBad0 0x32#8) := rfl
theorem test_decode_m0InitOnP79 : decode (at' (.m0110 .init)).context (.scan 0b01111001#8) = .ok .m0InitOnP79 := rfl
theorem test_decode_m0InitOnP71 : decode (at' (.m0110 .init)).context (.scan 0b01110001#8) = .ok .m0InitOnP71 := rfl
theorem test_decode_m0InitOnKey : decode (at' (.m0110 .init)).context (.scan 0b10110011#8) = .ok (.m0InitOnKey 0xB3#8) := rfl
theorem test_decode_m0P79OnBad0 : decode (at' (.m0110 .p79)).context (.scan 0b00001100#8) = .ok (.m0P79OnBad0 0x0C#8) := rfl
theorem test_decode_m0P79OnKey : decode (at' (.m0110 .p79)).context (.scan 0b10001101#8) = .ok (.m0P79OnKey 0x8D#8) := rfl
theorem test_decode_m0P71OnBad0 : decode (at' (.m0110 .p71)).context (.scan 0b01111000#8) = .ok (.m0P71OnBad0 0x78#8) := rfl
theorem test_decode_m0P71On79 : decode (at' (.m0110 .p71)).context (.scan 0b01111001#8) = .ok .m0P71On79 := rfl
theorem test_decode_m0P71OnOther : decode (at' (.m0110 .p71)).context (.scan 0b01110001#8) = .ok (.m0P71OnOther 0x71#8) := rfl
theorem test_decode_m0P71x79OnBad0 : decode (at' (.m0110 .p71x79)).context (.scan 0b00000000#8) = .ok (.m0P71x79OnBad0 0x00#8) := rfl
theorem test_decode_m0P71x79OnKey : decode (at' (.m0110 .p71x79)).context (.scan 0b10001101#8) = .ok (.m0P71x79OnKey 0x8D#8) := rfl

/-! ## Words of the opcode table, placed and run -/

theorem test_tableWord_scan : decodeTableWord 8 0x83 = some .s2InitOnA83 := rfl
theorem test_tableWord_at : decodeTableWord 11 0x438 = some (.rxAtOk 0x438#11 .enqueueForDecoding) := rfl
theorem test_tableWord_xt : decodeTableWord 9 0x000 = some (.rxXtBadStart 0x000#9) := rfl
theorem test_tableWord_call : decodeTableWord 0 0 = none := rfl
theorem test_placed_scan :
    step (State.reset.withFetchWord 8 0xE1) = .next { State.reset with dec := .set1 .e1, result := .fed none } := rfl
theorem test_placed_at :
    step (State.reset.withFetchWord 11 0x439) =
      exec (.rxAtBadStart 0x439#11) State.reset := rfl

/-! ## One step, with the results of the vectors -/

/-- Section 2.1 row 7: `diag` (0, 0x439), one `reset`, one `restart`, the session not asked. -/
theorem test_exec_rxAtBadStart : exec (.rxAtBadStart 0x439#11) s2 =
    .next { s2 with out := { tx := [], rcvctl := [.restart], sesctl := [.reset], hid := [],
                             diag := [.frameError .badStart (.at11 0x439#11)], asks := [] } } := rfl
/-- Row 1: 0x000 is `BadStop` although its parity is wrong. -/
theorem test_exec_rxAtBadStop : exec (.rxAtBadStop 0x000#11) s2 =
    .next { s2 with out := { tx := [], rcvctl := [.restart], sesctl := [.reset], hid := [],
                             diag := [.frameError .badStop (.at11 0x000#11)], asks := [] } } := rfl
/-- Row 6: `tx` gains 0x0FE. -/
theorem test_exec_rxAtBadParity : exec (.rxAtBadParity 0x638#11) s2 =
    .next { s2 with out := { tx := [0x0FE#9], rcvctl := [], sesctl := [], hid := [],
                             diag := [.frameError .badParity (.at11 0x638#11)], asks := [] } } := rfl
/-- Row 20: `rb.buf[0] = 0xE0`, `head = 1`. -/
theorem test_exec_rxAtOk : exec (.rxAtOk 0x5C0#11 .enqueueForDecoding) s2 =
    .next { s2 with rb := { buf := [(0, 0xE0#8)], head := 1#5, tail := 0#5 },
                    out := { s2.out with asks := [.onByte 0xE0#8] } } := rfl
/-- Section 2.1, answers, row 2: `SEND 0xED` puts 0x1ED on `tx`. -/
theorem test_exec_rxAtOk_send : exec (.rxAtOk 0x7F4#11 (.sendCommand 0xED#8)) s2 =
    .next { s2 with out := { s2.out with tx := [0x1ED#9], asks := [.onByte 0xFA#8] } } := rfl
theorem test_exec_rxAtOk_notHere : stops (exec (.rxAtOk 0x638#11 .none) s2) = some .classNotSelected := by decide
/-- Section 2.2 row 4. -/
theorem test_exec_rxXtBadStart : exec (.rxXtBadStart 0x1FE#9) x1 =
    .next { x1 with out := { tx := [], rcvctl := [.restart], sesctl := [.reset], hid := [],
                             diag := [.frameError .badStart (.xt9 0x1FE#9)], asks := [] } } := rfl
/-- Section 2.2 row 3. -/
theorem test_exec_rxXtOk : exec (.rxXtOk 0x1FF#9 .enqueueForDecoding) x1 =
    .next { x1 with rb := { buf := [(0, 0xFF#8)], head := 1#5, tail := 0#5 },
                    out := { x1.out with asks := [.onByte 0xFF#8] } } := rfl
/-- R300, on a ring with bytes, a decoder with a prefix and a masked interrupt. -/
theorem test_exec_setup : exec (.setup .xt .amiga) { ringAt 5#5 3#5 3 0x1C#8 with irqEn := false, dec := .set2 .e1 } =
    .next { s2 with proto := .xt, dec := .amiga .init, rb := { buf := [(3, 0x1C#8)], head := 0#5, tail := 0#5 } } := rfl
theorem test_step_setup_badCodeSet :
    stops (step (withAgenda [.started .consumer (.setup 0#1 7#3)] s2)) = some (.badCodeSet 7#3) := by decide
/-- Section 2.1, answers, row 6: `TxWord(0x00) = 0x100`. -/
theorem test_exec_rxAt : exec (.rxAt 0x438#11 (.sendCommand 0x00#8)) s2 =
    .next { s2 with out := { s2.out with tx := [0x100#9], asks := [.onByte 0x1C#8] } } := rfl
/-- Row 13: a bad start, a good stop and a wrong parity is `BadStart`. -/
theorem test_exec_rxAt_order : exec (.rxAt 0x401#11 .enqueueForDecoding) s2 = exec (.rxAtBadStart 0x401#11) s2 := rfl
/-- R108: `RX.XT(0x155)` with the answer `None` changes nothing of the block's state. -/
theorem test_exec_rxXt : exec (.rxXt 0x155#9 .none) x1 =
    .next { x1 with out := { x1.out with asks := [.onByte 0xAA#8] } } := rfl
theorem test_exec_rxXt_wrongProtocol : stops (exec (.rxXt 0x155#9 .none) s2) = some .wrongProtocol := by decide
theorem test_exec_rbIsEmpty : exec .rbIsEmpty (ringAt 31#5 31#5 0 0#8) =
    .next { ringAt 31#5 31#5 0 0#8 with result := .flag true } := rfl
/-- Full across the wrap: head 31, tail 0. -/
theorem test_exec_rbIsFull : exec .rbIsFull (ringAt 31#5 0#5 0 0#8) =
    .next { ringAt 31#5 0#5 0 0#8 with result := .flag true } := rfl
/-- A put at slot 31 moves head to 0. -/
theorem test_exec_rbPut : exec (.rbPut 0x5A#8) (ringAt 31#5 30#5 30 0x20#8) =
    .next { s2 with rb := { buf := [(30, 0x20#8), (31, 0x5A#8)], head := 0#5, tail := 30#5 }, result := .put true } := rfl
/-- V3: the 32nd byte is dropped and recorded, the indices stay. -/
theorem test_exec_rbPut_full : exec (.rbPut 0x5A#8) (ringAt 31#5 0#5 0 0x20#8) =
    .next { ringAt 31#5 0#5 0 0x20#8 with out := { s2.out with diag := [.bufferOverflow 0x5A#8] }, result := .put false } := rfl
theorem test_exec_rbGet : exec .rbGet (ringAt 0#5 31#5 31 0x1C#8) =
    .next { ringAt 0#5 0#5 31 0x1C#8 with result := .got 0x1C#8 true } := rfl
/-- The producer takes a word between the slot read and the index release: nothing is lost. -/
theorem test_exec_rbGet_interleaved :
    exec .rbGet { ringAt 1#5 0#5 0 0x1C#8 with
        env := { agenda := [], rcv := [{ raw := 0x7E0#16, answer := .enqueueForDecoding }], preempts := [0, 1] } } =
      .next { s2 with rb := { buf := [(0, 0x1C#8), (1, 0xF0#8)], head := 2#5, tail := 1#5 },
                      out := { s2.out with asks := [.onByte 0xF0#8] }, result := .got 0x1C#8 true } := rfl
/-- P5 statement 13: the indices are cleared, the decoder keeps its prefix. -/
theorem test_exec_rbReset : exec .rbReset { ringAt 6#5 4#5 4 0xF0#8 with dec := .set2 .f0 } =
    .next { ringAt 0#5 0#5 4 0xF0#8 with dec := .set2 .f0 } := rfl
theorem test_exec_rbReset_notQuiescent :
    stops (exec .rbReset { s2 with env := { agenda := [], rcv := [{ raw := 0#16, answer := .none }], preempts := [] } }) =
      some .producerNotQuiescent := by decide
/-- V6: `E1 99`. -/
theorem test_exec_decFeed : exec (.decFeed 0x99#8) (at' (.set2 .e1)) =
    .next { s2 with out := { s2.out with diag := [.sequenceError (.set2 .e1) 0x99#8] }, result := .fed none } := rfl
/-- P4 statement 9: the last byte of `E0 F0 75` gives the release of 0xD5. -/
theorem test_exec_taskIter : exec (.taskIter 7 true) { ringAt 1#5 0#5 0 0x75#8 with dec := .set2 .e0F0 } =
    .next { ringAt 1#5 1#5 0 0x75#8 with
      out := { s2.out with hid := [{ code := 0xD5#8, make := false }], asks := [.hidReady, .onTick 7] } } := rfl
/-- P2 statement 7: the sink is not ready and nothing is drained. -/
theorem test_exec_taskIter_held : exec (.taskIter 0 false) (ringAt 1#5 0#5 0 0x1C#8) =
    .next { ringAt 1#5 0#5 0 0x1C#8 with out := { s2.out with asks := [.hidReady, .onTick 0] } } := rfl
theorem test_step_masked : step (withAgenda [.interrupt] { s2 with irqEn := false }) = .next { s2 with irqEn := false } := rfl
theorem test_step_wrongContext :
    stops (step (withAgenda [.started .producer .rbGet] s2)) = some .wrongContext := by decide
theorem test_step_maskedCall :
    stops (step (withAgenda [.started .producer (.rbPut 0#8)] { s2 with irqEn := false })) = some .producerMasked := by decide
theorem test_exec_beforeSetup : stops (exec .rbGet { s2 with setupDone := false }) = some .beforeSetup := by decide

theorem test_exec_s1InitOnE0 : exec .s1InitOnE0 (at' (.set1 .init)) =
    .next { at' (.set1 .e0) with result := .fed (none) } := rfl
theorem test_exec_s1InitOnE1 : exec .s1InitOnE1 (at' (.set1 .init)) =
    .next { at' (.set1 .e1) with result := .fed (none) } := rfl
theorem test_exec_s1InitOnMake : exec (.s1InitOnMake 0x7F#8) (at' (.set1 .init)) =
    .next { at' (.set1 .init) with result := .fed (some { code := 0x7F#8, make := true }) } := rfl
theorem test_exec_s1InitOnBreak : exec (.s1InitOnBreak 0xFF#8) (at' (.set1 .init)) =
    .next { at' (.set1 .init) with result := .fed (some { code := 0x7F#8, make := false }) } := rfl
theorem test_exec_s1E0OnMake : exec (.s1E0OnMake 0x48#8) (at' (.set1 .e0)) =
    .next { at' (.set1 .init) with result := .fed (some { code := 0xC8#8, make := true }) } := rfl
theorem test_exec_s1E0OnBreak : exec (.s1E0OnBreak 0x9D#8) (at' (.set1 .e0)) =
    .next { at' (.set1 .init) with result := .fed (some { code := 0xC1#8, make := false }) } := rfl
theorem test_exec_s1E1On1d : exec .s1E1On1d (at' (.set1 .e1)) =
    .next { at' (.set1 .e1x1D) with result := .fed (none) } := rfl
theorem test_exec_s1E1On9d : exec .s1E1On9d (at' (.set1 .e1)) =
    .next { at' (.set1 .e1x9D) with result := .fed (none) } := rfl
theorem test_exec_s1E1OnOther : exec (.s1E1OnOther 0xE1#8) (at' (.set1 .e1)) =
    .next { at' (.set1 .init) with result := .fed (none), out := { s2.out with diag := [.sequenceError (.set1 .e1) 0xE1#8] } } := rfl
theorem test_exec_s1E1x1DOn45 : exec .s1E1x1DOn45 (at' (.set1 .e1x1D)) =
    .next { at' (.set1 .init) with result := .fed (some { code := 0xC6#8, make := true }) } := rfl
theorem test_exec_s1E1x1DOnOther : exec (.s1E1x1DOnOther 0x1D#8) (at' (.set1 .e1x1D)) =
    .next { at' (.set1 .init) with result := .fed (none), out := { s2.out with diag := [.sequenceError (.set1 .e1x1D) 0x1D#8] } } := rfl
theorem test_exec_s1E1x9DOnC5 : exec .s1E1x9DOnC5 (at' (.set1 .e1x9D)) =
    .next { at' (.set1 .init) with result := .fed (some { code := 0xC6#8, make := false }) } := rfl
theorem test_exec_s1E1x9DOnOther : exec (.s1E1x9DOnOther 0x45#8) (at' (.set1 .e1x9D)) =
    .next { at' (.set1 .init) with result := .fed (none), out := { s2.out with diag := [.sequenceError (.set1 .e1x9D) 0x45#8] } } := rfl
theorem test_exec_s2InitOnE0 : exec .s2InitOnE0 (at' (.set2 .init)) =
    .next { at' (.set2 .e0) with result := .fed (none) } := rfl
theorem test_exec_s2InitOnF0 : exec .s2InitOnF0 (at' (.set2 .init)) =
    .next { at' (.set2 .f0) with result := .fed (none) } := rfl
theorem test_exec_s2InitOnE1 : exec .s2InitOnE1 (at' (.set2 .init)) =
    .next { at' (.set2 .e1) with result := .fed (none) } := rfl
theorem test_exec_s2InitOnA83 : exec .s2InitOnA83 (at' (.set2 .init)) =
    .next { at' (.set2 .init) with result := .fed (some { code := 0x02#8, make := true }) } := rfl
theorem test_exec_s2InitOnA84 : exec .s2InitOnA84 (at' (.set2 .init)) =
    .next { at' (.set2 .init) with result := .fed (some { code := 0x7F#8, make := true }) } := rfl
theorem test_exec_s2InitOnMake : exec (.s2InitOnMake 0x1C#8) (at' (.set2 .init)) =
    .next { at' (.set2 .init) with result := .fed (some { code := 0x1C#8, make := true }) } := rfl
theorem test_exec_s2InitOnOther : exec (.s2InitOnOther 0x80#8) (at' (.set2 .init)) =
    .next { at' (.set2 .init) with result := .fed (none), out := { s2.out with diag := [.sequenceError (.set2 .init) 0x80#8] } } := rfl
theorem test_exec_s2F0OnA83 : exec .s2F0OnA83 (at' (.set2 .f0)) =
    .next { at' (.set2 .init) with result := .fed (some { code := 0x02#8, make := false }) } := rfl
theorem test_exec_s2F0OnA84 : exec .s2F0OnA84 (at' (.set2 .f0)) =
    .next { at' (.set2 .init) with result := .fed (some { code := 0x7F#8, make := false }) } := rfl
theorem test_exec_s2F0OnBreak : exec (.s2F0OnBreak 0x1C#8) (at' (.set2 .f0)) =
    .next { at' (.set2 .init) with result := .fed (some { code := 0x1C#8, make := false }) } := rfl
theorem test_exec_s2F0OnOther : exec (.s2F0OnOther 0xF0#8) (at' (.set2 .f0)) =
    .next { at' (.set2 .init) with result := .fed (none), out := { s2.out with diag := [.sequenceError (.set2 .f0) 0xF0#8] } } := rfl
theorem test_exec_s2E0OnF0 : exec .s2E0OnF0 (at' (.set2 .e0)) =
    .next { at' (.set2 .e0F0) with result := .fed (none) } := rfl
theorem test_exec_s2E0OnKey : exec (.s2E0OnKey 0x75#8) (at' (.set2 .e0)) =
    .next { at' (.set2 .init) with result := .fed (some { code := 0xD5#8, make := true }) } := rfl
theorem test_exec_s2E0OnOther : exec (.s2E0OnOther 0xE0#8) (at' (.set2 .e0)) =
    .next { at' (.set2 .init) with result := .fed (none), out := { s2.out with diag := [.sequenceError (.set2 .e0) 0xE0#8] } } := rfl
theorem test_exec_s2E0F0OnKey : exec (.s2E0F0OnKey 0x75#8) (at' (.set2 .e0F0)) =
    .next { at' (.set2 .init) with result := .fed (some { code := 0xD5#8, make := false }) } := rfl
theorem test_exec_s2E0F0OnOther : exec (.s2E0F0OnOther 0xF0#8) (at' (.set2 .e0F0)) =
    .next { at' (.set2 .init) with result := .fed (none), out := { s2.out with diag := [.sequenceError (.set2 .e0F0) 0xF0#8] } } := rfl
theorem test_exec_s2E1On14 : exec .s2E1On14 (at' (.set2 .e1)) =
    .next { at' (.set2 .e1x14) with result := .fed (none) } := rfl
theorem test_exec_s2E1OnF0 : exec .s2E1OnF0 (at' (.set2 .e1)) =
    .next { at' (.set2 .e1F0) with result := .fed (none) } := rfl
theorem test_exec_s2E1OnOther : exec (.s2E1OnOther 0x99#8) (at' (.set2 .e1)) =
    .next { at' (.set2 .init) with result := .fed (none), out := { s2.out with diag := [.sequenceError (.set2 .e1) 0x99#8] } } := rfl
theorem test_exec_s2E1x14On77 : exec .s2E1x14On77 (at' (.set2 .e1x14)) =
    .next { at' (.set2 .init) with result := .fed (some { code := 0xD7#8, make := true }) } := rfl
theorem test_exec_s2E1x14OnOther : exec (.s2E1x14OnOther 0x14#8) (at' (.set2 .e1x14)) =
    .next { at' (.set2 .init) with result := .fed (none), out := { s2.out with diag := [.sequenceError (.set2 .e1x14) 0x14#8] } } := rfl
theorem test_exec_s2E1F0On14 : exec .s2E1F0On14 (at' (.set2 .e1F0)) =
    .next { at' (.set2 .e1F0x14) with result := .fed (none) } := rfl
theorem test_exec_s2E1F0OnOther : exec (.s2E1F0OnOther 0x77#8) (at' (.set2 .e1F0)) =
    .next { at' (.set2 .init) with result := .fed (none), out := { s2.out with diag := [.sequenceError (.set2 .e1F0) 0x77#8] } } := rfl
theorem test_exec_s2E1F0x14OnF0 : exec .s2E1F0x14OnF0 (at' (.set2 .e1F0x14)) =
    .next { at' (.set2 .e1F0x14F0) with result := .fed (none) } := rfl
theorem test_exec_s2E1F0x14OnOther : exec (.s2E1F0x14OnOther 0x77#8) (at' (.set2 .e1F0x14)) =
    .next { at' (.set2 .init) with result := .fed (none), out := { s2.out with diag := [.sequenceError (.set2 .e1F0x14) 0x77#8] } } := rfl
theorem test_exec_s2E1F0x14F0On77 : exec .s2E1F0x14F0On77 (at' (.set2 .e1F0x14F0)) =
    .next { at' (.set2 .init) with result := .fed (some { code := 0xD7#8, make := false }) } := rfl
theorem test_exec_s2E1F0x14F0OnOther : exec (.s2E1F0x14F0OnOther 0x14#8) (at' (.set2 .e1F0x14F0)) =
    .next { at' (.set2 .init) with result := .fed (none), out := { s2.out with diag := [.sequenceError (.set2 .e1F0x14F0) 0x14#8] } } := rfl
theorem test_exec_s3InitOnF0 : exec .s3InitOnF0 (at' (.set3 .init)) =
    .next { at' (.set3 .f0) with result := .fed (none) } := rfl
theorem test_exec_s3InitOnRemap : exec (.s3InitOnRemap 0x84#8) (at' (.set3 .init)) =
    .next { at' (.set3 .init) with result := .fed (some { code := 0x6A#8, make := true }) } := rfl
theorem test_exec_s3InitOnMake : exec (.s3InitOnMake 0x1C#8) (at' (.set3 .init)) =
    .next { at' (.set3 .init) with result := .fed (some { code := 0x1C#8, make := true }) } := rfl
theorem test_exec_s3InitOnOther : exec (.s3InitOnOther 0x83#8) (at' (.set3 .init)) =
    .next { at' (.set3 .init) with result := .fed (none), out := { s2.out with diag := [.sequenceError (.set3 .init) 0x83#8] } } := rfl
theorem test_exec_s3F0OnRemap : exec (.s3F0OnRemap 0x84#8) (at' (.set3 .f0)) =
    .next { at' (.set3 .init) with result := .fed (some { code := 0x6A#8, make := false }) } := rfl
theorem test_exec_s3F0OnBreak : exec (.s3F0OnBreak 0x1C#8) (at' (.set3 .f0)) =
    .next { at' (.set3 .init) with result := .fed (some { code := 0x1C#8, make := false }) } := rfl
theorem test_exec_s3F0OnOther : exec (.s3F0OnOther 0xF0#8) (at' (.set3 .f0)) =
    .next { at' (.set3 .init) with result := .fed (none), out := { s2.out with diag := [.sequenceError (.set3 .f0) 0xF0#8] } } := rfl
theorem test_exec_amInitOnKey : exec (.amInitOnKey 0xE7#8) (at' (.amiga .init)) =
    .next { at' (.amiga .init) with result := .fed (some { code := 0x67#8, make := false }) } := rfl
theorem test_exec_amInitOnReject : exec (.amInitOnReject 0xE8#8) (at' (.amiga .init)) =
    .next { at' (.amiga .init) with result := .fed (none), out := { s2.out with diag := [.sequenceError (.amiga .init) 0xE8#8] } } := rfl
theorem test_exec_m0InitOnBad0 : exec (.m0InitOnBad0 0x32#8) (at' (.m0110 .init)) =
    .next { at' (.m0110 .init) with result := .fed (none), out := { s2.out with diag := [.sequenceError (.m0110 .init) 0x32#8] } } := rfl
theorem test_exec_m0InitOnP79 : exec .m0InitOnP79 (at' (.m0110 .init)) =
    .next { at' (.m0110 .p79) with result := .fed (none) } := rfl
theorem test_exec_m0InitOnP71 : exec .m0InitOnP71 (at' (.m0110 .init)) =
    .next { at' (.m0110 .p71) with result := .fed (none) } := rfl
theorem test_exec_m0InitOnKey : exec (.m0InitOnKey 0xB3#8) (at' (.m0110 .init)) =
    .next { at' (.m0110 .init) with result := .fed (some { code := 0x19#8, make := false }) } := rfl
theorem test_exec_m0P79OnBad0 : exec (.m0P79OnBad0 0x0C#8) (at' (.m0110 .p79)) =
    .next { at' (.m0110 .init) with result := .fed (none), out := { s2.out with diag := [.sequenceError (.m0110 .p79) 0x0C#8] } } := rfl
theorem test_exec_m0P79OnKey : exec (.m0P79OnKey 0x8D#8) (at' (.m0110 .p79)) =
    .next { at' (.m0110 .init) with result := .fed (some { code := 0x46#8, make := false }) } := rfl
theorem test_exec_m0P71OnBad0 : exec (.m0P71OnBad0 0x78#8) (at' (.m0110 .p71)) =
    .next { at' (.m0110 .init) with result := .fed (none), out := { s2.out with diag := [.sequenceError (.m0110 .p71) 0x78#8] } } := rfl
theorem test_exec_m0P71On79 : exec .m0P71On79 (at' (.m0110 .p71)) =
    .next { at' (.m0110 .p71x79) with result := .fed (none) } := rfl
theorem test_exec_m0P71OnOther : exec (.m0P71OnOther 0x71#8) (at' (.m0110 .p71)) =
    .next { at' (.m0110 .init) with result := .fed (none), out := { s2.out with diag := [.sequenceError (.m0110 .p71) 0x71#8] } } := rfl
theorem test_exec_m0P71x79OnBad0 : exec (.m0P71x79OnBad0 0x00#8) (at' (.m0110 .p71x79)) =
    .next { at' (.m0110 .init) with result := .fed (none), out := { s2.out with diag := [.sequenceError (.m0110 .p71x79) 0x00#8] } } := rfl
theorem test_exec_m0P71x79OnKey : exec (.m0P71x79OnKey 0x8D#8) (at' (.m0110 .p71x79)) =
    .next { at' (.m0110 .init) with result := .fed (some { code := 0x86#8, make := false }) } := rfl

/-! ## States and operands that meet the hypotheses of the statements -/

/-- An operation that is well formed in a context that selects it. -/
def admitted (s : State) (i : Instr) : Bool := i.wf s.framing s.tables && selects s.context i

/-- `DecodeEncodeAgree`: the frame classes and the calls, at the edges of their operands. -/
theorem witness_DecodeEncodeAgree_calls :
    ([.rxAtBadStart 0x7FF#11, .rxAtBadStop 0x000#11, .rxAtBadParity 0x400#11, .rxAtOk 0x600#11 .enqueueForDecoding,
      .rxAtOk 0x7FE#11 (.sendCommand 0xED#8), .setup .xt .m0110, .rxAt 0x7FF#11 .none, .rxXt 0x1FF#9 .none, .rbIsEmpty,
      .rbIsFull, .rbPut 0xFF#8, .rbGet, .rbReset, .decFeed 0xFF#8, .taskIter 0 false] : List Instr).all (admitted s2) = true := by
  decide
theorem witness_DecodeEncodeAgree_xt :
    ([.rxXtBadStart 0x1FE#9, .rxXtOk 0x001#9 .none] : List Instr).all (admitted x1) = true := by decide

/-- `DecodeEncodeAgree`, `ByteClassRunsExactlyWhereItApplies`: every byte class of a decoder state. -/
theorem witness_DecodeEncodeAgree_set1_init :
    ([.s1InitOnE0, .s1InitOnE1, .s1InitOnMake 0x7F#8, .s1InitOnBreak 0xFF#8] : List Instr).all (admitted (at' (.set1 .init))) = true := by decide
theorem witness_DecodeEncodeAgree_set1_e0 :
    ([.s1E0OnMake 0x48#8, .s1E0OnBreak 0x9D#8] : List Instr).all (admitted (at' (.set1 .e0))) = true := by decide
theorem witness_DecodeEncodeAgree_set1_e1 :
    ([.s1E1On1d, .s1E1On9d, .s1E1OnOther 0xE1#8] : List Instr).all (admitted (at' (.set1 .e1))) = true := by decide
theorem witness_DecodeEncodeAgree_set1_e1x1D :
    ([.s1E1x1DOn45, .s1E1x1DOnOther 0x1D#8] : List Instr).all (admitted (at' (.set1 .e1x1D))) = true := by decide
theorem witness_DecodeEncodeAgree_set1_e1x9D :
    ([.s1E1x9DOnC5, .s1E1x9DOnOther 0x45#8] : List Instr).all (admitted (at' (.set1 .e1x9D))) = true := by decide
theorem witness_DecodeEncodeAgree_set2_init :
    ([.s2InitOnE0, .s2InitOnF0, .s2InitOnE1, .s2InitOnA83, .s2InitOnA84, .s2InitOnMake 0x1C#8, .s2InitOnOther 0x80#8] : List Instr).all (admitted (at' (.set2 .init))) = true := by decide
theorem witness_DecodeEncodeAgree_set2_f0 :
    ([.s2F0OnA83, .s2F0OnA84, .s2F0OnBreak 0x1C#8, .s2F0OnOther 0xF0#8] : List Instr).all (admitted (at' (.set2 .f0))) = true := by decide
theorem witness_DecodeEncodeAgree_set2_e0 :
    ([.s2E0OnF0, .s2E0OnKey 0x75#8, .s2E0OnOther 0xE0#8] : List Instr).all (admitted (at' (.set2 .e0))) = true := by decide
theorem witness_DecodeEncodeAgree_set2_e0F0 :
    ([.s2E0F0OnKey 0x75#8, .s2E0F0OnOther 0xF0#8] : List Instr).all (admitted (at' (.set2 .e0F0))) = true := by decide
theorem witness_DecodeEncodeAgree_set2_e1 :
    ([.s2E1On14, .s2E1OnF0, .s2E1OnOther 0x99#8] : List Instr).all (admitted (at' (.set2 .e1))) = true := by decide
theorem witness_DecodeEncodeAgree_set2_e1x14 :
    ([.s2E1x14On77, .s2E1x14OnOther 0x14#8] : List Instr).all (admitted (at' (.set2 .e1x14))) = true := by decide
theorem witness_DecodeEncodeAgree_set2_e1F0 :
    ([.s2E1F0On14, .s2E1F0OnOther 0x77#8] : List Instr).all (admitted (at' (.set2 .e1F0))) = true := by decide
theorem witness_DecodeEncodeAgree_set2_e1F0x14 :
    ([.s2E1F0x14OnF0, .s2E1F0x14OnOther 0x77#8] : List Instr).all (admitted (at' (.set2 .e1F0x14))) = true := by decide
theorem witness_DecodeEncodeAgree_set2_e1F0x14F0 :
    ([.s2E1F0x14F0On77, .s2E1F0x14F0OnOther 0x14#8] : List Instr).all (admitted (at' (.set2 .e1F0x14F0))) = true := by decide
theorem witness_DecodeEncodeAgree_set3_init :
    ([.s3InitOnF0, .s3InitOnRemap 0x84#8, .s3InitOnMake 0x1C#8, .s3InitOnOther 0x83#8] : List Instr).all (admitted (at' (.set3 .init))) = true := by decide
theorem witness_DecodeEncodeAgree_set3_f0 :
    ([.s3F0OnRemap 0x84#8, .s3F0OnBreak 0x1C#8, .s3F0OnOther 0xF0#8] : List Instr).all (admitted (at' (.set3 .f0))) = true := by decide
theorem witness_DecodeEncodeAgree_amiga_init :
    ([.amInitOnKey 0xE7#8, .amInitOnReject 0xE8#8] : List Instr).all (admitted (at' (.amiga .init))) = true := by decide
theorem witness_DecodeEncodeAgree_m0110_init :
    ([.m0InitOnBad0 0x32#8, .m0InitOnP79, .m0InitOnP71, .m0InitOnKey 0xB3#8] : List Instr).all (admitted (at' (.m0110 .init))) = true := by decide
theorem witness_DecodeEncodeAgree_m0110_p79 :
    ([.m0P79OnBad0 0x0C#8, .m0P79OnKey 0x8D#8] : List Instr).all (admitted (at' (.m0110 .p79))) = true := by decide
theorem witness_DecodeEncodeAgree_m0110_p71 :
    ([.m0P71OnBad0 0x78#8, .m0P71On79, .m0P71OnOther 0x71#8] : List Instr).all (admitted (at' (.m0110 .p71))) = true := by decide
theorem witness_DecodeEncodeAgree_m0110_p71x79 :
    ([.m0P71x79OnBad0 0x00#8, .m0P71x79OnKey 0x8D#8] : List Instr).all (admitted (at' (.m0110 .p71x79))) = true := by decide

theorem witness_DecodedOperationIsWellFormed :
    decode s2.context (.frame 0x438#16 .none) = .ok (.rxAtOk 0x438#11 .none) ∧
      decode (at' (.set2 .e0)).context (.scan 0x7F#8) = .ok (.s2E0OnKey 0x7F#8) ∧
      decode s2.context (.call (.setup 0#1 4#3)) = .ok (.setup .atPs2 .m0110) := ⟨rfl, rfl, rfl⟩

theorem witness_ContainerBitsAboveFrameIgnored : s2.context.proto = .atPs2 ∧ x1.context.proto = .xt := by decide

/-- `FrameChecksInOrder`, `BadStartAndBadStopReaction`, `BadParityReaction`, `ValidatedAtByteRouted`: one word for each
class of AT/PS2 word, the bits tested later being bad as well. -/
theorem witness_atWords :
    s2.setupDone = true ∧ s2.proto = .atPs2 ∧
    (0x001#11 : AtFrame).getLsbD 0 ≠ s2.framing.atStart ∧
    ((0x000#11 : AtFrame).getLsbD 0 = s2.framing.atStart ∧ (0x000#11 : AtFrame).getLsbD 10 ≠ s2.framing.atStop) ∧
    ((0x400#11 : AtFrame).getLsbD 0 = s2.framing.atStart ∧ (0x400#11 : AtFrame).getLsbD 10 = s2.framing.atStop ∧
      (0x400#11 : AtFrame).getLsbD 9 ≠ par ((0x400#11 : AtFrame).extractLsb' 1 8)) ∧
    ((0x600#11 : AtFrame).getLsbD 0 = s2.framing.atStart ∧ (0x600#11 : AtFrame).getLsbD 10 = s2.framing.atStop ∧
      (0x600#11 : AtFrame).getLsbD 9 = par ((0x600#11 : AtFrame).extractLsb' 1 8)) := by decide
/-- `FrameChecksInOrder`, `BadStartAndBadStopReaction`, `ValidatedXtByteRouted`, `XtCommandAnswerCountsAsNone`,
`XtInstanceTransmitsNothing`. -/
theorem witness_xtWords :
    x1.setupDone = true ∧ x1.proto = .xt ∧ (0x000#9 : XtFrame).getLsbD 0 ≠ x1.framing.xtStart ∧
      (0x001#9 : XtFrame).getLsbD 0 = x1.framing.xtStart := by decide
/-- `BadParityReaction`, its XT clause: `RX.XT` completes, with and without a diagnostic. -/
theorem witness_BadParityReaction_xt :
    (∃ t, exec (.rxXt 0x001#9 .none) x1 = .next t) ∧ ∃ t, exec (.rxXt 0x000#9 .none) x1 = .next t := ⟨⟨_, rfl⟩, ⟨_, rfl⟩⟩
/-- `ValidatedAtByteRouted`, `ValidatedXtByteRouted`, `PutAcceptsUnlessFull`: one byte of room, and none. -/
theorem witness_roomAndFull :
    (ringAt 30#5 0#5 0 0#8).setupDone = true ∧ (ringAt 30#5 0#5 0 0#8).rb.head + 1#5 ≠ (ringAt 30#5 0#5 0 0#8).rb.tail ∧
      ((ringAt 30#5 0#5 0 0#8).rb.head.toNat + 1) % 32 ≠ (ringAt 30#5 0#5 0 0#8).rb.tail.toNat ∧
      (ringAt 31#5 0#5 0 0#8).setupDone = true ∧ (ringAt 31#5 0#5 0 0#8).rb.head + 1#5 = (ringAt 31#5 0#5 0 0#8).rb.tail ∧
      ((ringAt 31#5 0#5 0 0#8).rb.head.toNat + 1) % 32 = (ringAt 31#5 0#5 0 0#8).rb.tail.toNat := by decide
theorem witness_ParityLaw : ∀ b : Byte, (popcount b + (par b).toNat) % 2 = 1 := by decide
theorem witness_FrameOperationsOnlyUnderTheirProtocol :
    x1.setupDone = true ∧ x1.proto = .xt ∧ s2.setupDone = true ∧ s2.proto = .atPs2 := by decide

/-- `StepRunsDecodedOperation`: each of its three clauses. -/
theorem witness_StepRunsDecodedOperation :
    ((withAgenda [.scan 0xE0#8] s2).env.agenda = [.scan 0xE0#8] ∧
      decode (withAgenda [.scan 0xE0#8] s2).context (.scan 0xE0#8) = .ok .s2InitOnE0) ∧
    ((withAgenda [.interrupt] s2).env.agenda = [.interrupt] ∧ (withAgenda [.interrupt] s2).irqEn = true ∧
      ((withAgenda [.interrupt] s2).setRcv [{ raw := 0x438#16, answer := .none }]).env.rcv = [{ raw := 0x438#16, answer := .none }] ∧
      decode s2.context (.frame 0x438#16 .none) = .ok (.rxAtOk 0x438#11 .none)) ∧
    ((withAgenda [.started .producer .rbIsFull] s2).env.agenda = [.started .producer .rbIsFull] ∧
      decode s2.context (.call .rbIsFull) = .ok .rbIsFull ∧ Instr.rbIsFull.agent = .producer ∧ s2.irqEn = true) := by
  refine ⟨⟨rfl, rfl⟩, ⟨rfl, rfl, rfl, rfl⟩, rfl, rfl, rfl, rfl⟩

/-- `EventsThatStartNoOperation`: each of its clauses; codes 5 and 7 are the edges of the last. -/
theorem witness_EventsThatStartNoOperation :
    s2.env.agenda = [] ∧
    ((withAgenda [.interrupt] { s2 with irqEn := false }).env.agenda = [.interrupt] ∧
      (withAgenda [.interrupt] { s2 with irqEn := false }).irqEn = false ∧ (withAgenda [.interrupt] s2).env.rcv = []) ∧
    (withAgenda [.deliver { raw := 0#16, answer := .none }] s2).env.agenda = [.deliver { raw := 0#16, answer := .none }] ∧
    (withAgenda [.setIrq false] s2).env.agenda = [.setIrq false] ∧
    (decode s2.context (.call .rbGet) = .ok .rbGet ∧ Instr.rbGet.agent ≠ .producer) ∧
    (decode s2.context (.call (.rbPut 0#8)) = .ok (.rbPut 0#8) ∧ (Instr.rbPut 0#8).agent = .producer) ∧
    ((5#3 : BitVec 3) ≤ 5#3 ∧ (5#3 : BitVec 3) ≤ 7#3) := by
  refine ⟨rfl, ⟨rfl, rfl, rfl⟩, rfl, rfl, ⟨rfl, ?_⟩, ⟨rfl, rfl⟩, ?_⟩ <;> decide

/-- `RingQueriesAnswerTheIndices`, `EmptyAndFullNeverTogether`, `FeedTouchesOnlyTheDecoder`. -/
theorem witness_afterSetup : s2.setupDone = true := by decide
/-- `GetTakesTheSlotAtTail`: an empty ring, a written slot, and a slot that holds no value. -/
theorem witness_GetTakesTheSlotAtTail :
    (s2.setupDone = true ∧ s2.rb.head = s2.rb.tail) ∧
    ((ringAt 0#5 31#5 31 0x1C#8).rb.head ≠ (ringAt 0#5 31#5 31 0x1C#8).rb.tail ∧
      (ringAt 0#5 31#5 31 0x1C#8).env.preempts = [] ∧ Memory.read (ringAt 0#5 31#5 31 0x1C#8).rb.buf 31 = some 0x1C#8) ∧
    ((ringAt 0#5 31#5 0 0x1C#8).rb.head ≠ (ringAt 0#5 31#5 0 0x1C#8).rb.tail ∧
      Memory.read (ringAt 0#5 31#5 0 0x1C#8).rb.buf 31 = none) := by decide
/-- `GetUnderInterleaving`, `TaskIterUnderInterleaving`, `TaskIterUndisturbed`, `TaskIterIsItsMicroSteps`: a byte at tail,
across the wrap. The schedule is empty here; `witness_GetUnderInterleaving` and those after it have one. -/
theorem witness_byteAtTail :
    (ringAt 0#5 31#5 31 0x1C#8).setupDone = true ∧ (ringAt 0#5 31#5 31 0x1C#8).rb.head ≠ (ringAt 0#5 31#5 31 0x1C#8).rb.tail ∧
      Memory.read (ringAt 0#5 31#5 31 0x1C#8).rb.buf (ringAt 0#5 31#5 31 0x1C#8).rb.tail.toNat = some 0x1C#8 ∧
      (ringAt 0#5 31#5 31 0x1C#8).env.preempts = [] := by decide
/-- `GetUnderInterleaving` with a schedule that asks for one operation at its second boundary: the waiting word is put
while interrupts are enabled, and stays where it is while they are masked. -/
theorem witness_GetUnderInterleaving :
    let s := scheduled [0, 1] [wordF0] (ringAt 1#5 0#5 0 0x1C#8)
    s.setupDone = true ∧ s.rb.head ≠ s.rb.tail ∧ Memory.read s.rb.buf s.rb.tail.toNat = some 0x1C#8 ∧
      (∃ t, exec .rbGet s = .next t ∧ t.result = .got 0x1C#8 true ∧ held t = [0xF0#8] ∧ t.env.rcv = []) ∧
      ∃ t, exec .rbGet { s with irqEn := false } = .next t ∧ t.result = .got 0x1C#8 true ∧ held t = [] ∧
        t.env.rcv = [wordF0] :=
  ⟨rfl, by decide, rfl, ⟨_, rfl, rfl, rfl, rfl⟩, _, rfl, rfl, rfl, rfl⟩
/-- `TaskIterUnderInterleaving`, `TaskIterIsItsMicroSteps`, a ring empty at the start: the byte put at the boundary after
`HID.ready` is drained by this call; one put at the boundary after it, and one that stays masked, are not. -/
theorem witness_TaskIterUnderInterleaving_empty :
    let s := scheduled [1] [word1C] s2
    let late := scheduled [0, 1] [word1C] s2
    s.setupDone = true ∧ s.rb.head = s.rb.tail ∧ late.rb.head = late.rb.tail ∧
      (∃ asked, atBoundary (s.ask .hidReady) = .next asked ∧ asked.rb.head ≠ asked.rb.tail ∧
        Memory.read asked.rb.buf asked.rb.tail.toNat = some 0x1C#8) ∧
      (∃ asked, atBoundary (late.ask .hidReady) = .next asked ∧ asked.rb.head = asked.rb.tail) ∧
      (∃ t, exec (.taskIter 0 true) s = .next t ∧ t.rb.tail = 1#5 ∧ t.out.hid = [{ code := 0x1C#8, make := true }] ∧ t.env.rcv = []) ∧
      (∃ t, exec (.taskIter 0 true) late = .next t ∧ t.rb.tail = 0#5 ∧ t.out.hid = [] ∧ held t = [0x1C#8]) ∧
      ∃ t, exec (.taskIter 0 true) { s with irqEn := false } = .next t ∧ t.rb.tail = 0#5 ∧ t.env.rcv = [word1C] :=
  ⟨rfl, rfl, rfl, ⟨_, rfl, by decide, rfl⟩, ⟨_, rfl, rfl⟩, ⟨_, rfl, rfl, rfl, rfl⟩, ⟨_, rfl, rfl, rfl, rfl⟩, _, rfl, rfl, rfl⟩
/-- `TaskIterUnderInterleaving`, `TaskIterIsItsMicroSteps`, a byte held at the start and a schedule that asks for an
operation at each of its boundaries: six of them, and one more where an event goes to the sink. -/
theorem witness_TaskIterUnderInterleaving_held :
    let s := scheduled [0, 0, 0, 0, 0, 0, 1, 5] [word1C] (ringAt 1#5 0#5 0 0x1C#8)
    let prefixed := scheduled [0, 0, 0, 0, 0, 0, 1, 5] [word1C] (ringAt 1#5 0#5 0 0xE0#8)
    s.setupDone = true ∧ s.rb.head ≠ s.rb.tail ∧ Memory.read s.rb.buf s.rb.tail.toNat = some 0x1C#8 ∧
      Memory.read prefixed.rb.buf prefixed.rb.tail.toNat = some 0xE0#8 ∧
      (∃ t, exec (.taskIter 0 true) s = .next t ∧ t.out.hid = [{ code := 0x1C#8, make := true }] ∧ held t = [0x1C#8] ∧ t.env.preempts = [5]) ∧
      (∃ t, exec (.taskIter 0 true) prefixed = .next t ∧ t.out.hid = [] ∧ held t = [] ∧ t.env.preempts = [1, 5]) ∧
      ∃ t, exec (.taskIter 0 true) { s with irqEn := false } = .next t ∧ held t = [] ∧ t.env.rcv = [word1C] :=
  ⟨rfl, by decide, rfl, rfl, ⟨_, rfl, rfl, rfl, rfl⟩, ⟨_, rfl, rfl, rfl, rfl⟩, _, rfl, rfl, rfl⟩
/-- `BoundaryRunsTheOldestWords`: each of its clauses. Two words wait and one operation is asked for, so the older goes. -/
theorem witness_BoundaryRunsTheOldestWords :
    let s := scheduled [1, 0] [word1C, wordF0] s2
    s.setupDone = true ∧ s.irqEn = true ∧ { s with irqEn := false }.irqEn = false ∧ s2.env.preempts = [] ∧
      (scheduled [0, 1] [word1C] s2).env.preempts = [0, 1] ∧ (scheduled [1] [] s2).env.rcv = [] ∧
      s.env.preempts = (0 + 1) :: [0] ∧ s.env.rcv = word1C :: [wordF0] ∧
      ∃ t, atBoundary s = .next t ∧ held t = [0x1C#8] ∧ t.env.rcv = [wordF0] ∧ t.env.preempts = [0] :=
  ⟨rfl, rfl, rfl, rfl, rfl, rfl, rfl, rfl, _, rfl, rfl, rfl, rfl⟩
theorem witness_TaskIterUndisturbed_empty : s2.setupDone = true ∧ s2.env.preempts = [] ∧ s2.rb.head = s2.rb.tail := by decide
/-- `RingResetNeedsQuiescence`: masked, no word waiting, and able to run. -/
theorem witness_RingResetNeedsQuiescence :
    s2.setupDone = true ∧ { s2 with irqEn := false }.irqEn = false ∧ s2.env.rcv = [] ∧ s2.irqEn = true ∧
      (s2.setRcv [{ raw := 0#16, answer := .none }]).env.rcv ≠ [] := by decide
/-- `PutAppendsToHeldBytes`, `FillLevelConserved`, `TaskIterKeepsPromisedEvents`: puts with room and without. -/
theorem witness_PutAppendsToHeldBytes :
    (∃ t, exec (.rbPut 0x1C#8) s2 = .next t ∧ rbFull s2 = false) ∧
      ∃ t, exec (.rbPut 0x1C#8) (ringAt 31#5 0#5 0 0#8) = .next t ∧ rbFull (ringAt 31#5 0#5 0 0#8) = true :=
  ⟨⟨_, rfl, rfl⟩, ⟨_, rfl, rfl⟩⟩
theorem witness_FillLevelConserved_get :
    (∃ t, s2.env.preempts = [] ∧ exec .rbGet s2 = .next t) ∧
      ∃ t, exec .rbGet (ringAt 1#5 0#5 0 0x1C#8) = .next t := ⟨⟨_, rfl, rfl⟩, ⟨_, rfl⟩⟩
/-- `OverflowRejectsThe32ndPut`: the state after `SETUP`, under either `PROTO`, from a ring that is not empty. -/
theorem witness_OverflowRejectsThe32ndPut :
    (∃ t, exec (.setup .xt .m0110) (ringAt 7#5 3#5 3 0x1C#8) = .next t ∧ t.setupDone = true ∧ t.rb.head = 0#5 ∧
      t.rb.tail = 0#5 ∧ t.env.preempts = []) ∧
    (∃ t, exec (.setup .atPs2 .set2) State.reset = .next t ∧ t.setupDone = true ∧ t.rb.head = 0#5 ∧ t.rb.tail = 0#5 ∧
      t.env.preempts = []) ∧ (List.replicate 31 (0x1C#8 : Byte)).length = 31 :=
  ⟨⟨_, rfl, rfl, rfl, rfl, rfl⟩, ⟨_, rfl, rfl, rfl, rfl, rfl⟩, rfl⟩
/-- `PutsThenGetsReturnTheBytes`: 31 bytes, the most a ring takes. -/
theorem witness_PutsThenGetsReturnTheBytes :
    s2.setupDone = true ∧ s2.env.preempts = [] ∧ rbEmpty s2 = true ∧ (List.replicate 31 (0x1C#8 : Byte)).length = 31 := by
  decide
theorem witness_TaskIterKeepsPromisedEvents :
    (ringAt 0#5 31#5 31 0x1C#8).env.preempts = [] ∧ liveWritten (ringAt 0#5 31#5 31 0x1C#8) = true ∧
      ∃ t, exec (.taskIter 0 true) (ringAt 0#5 31#5 31 0x1C#8) = .next t := ⟨rfl, rfl, _, rfl⟩
theorem witness_SetupOverwritesAllButTheSlots :
    (withAgenda [.started .consumer (.setup 0#1 5#3)] s2).env.agenda = [.started .consumer (.setup 0#1 5#3)] ∧
      (5#3 : BitVec 3) ≤ 5#3 := ⟨rfl, by decide⟩
theorem witness_NothingButSetupRunsBeforeSetup :
    { s2 with setupDone := false }.setupDone = false ∧ ∀ p c, Instr.rbGet ≠ .setup p c := ⟨rfl, fun _ _ h => by cases h⟩
/-- `FakeShiftSuppressed`, `Set3BytesDecode`: the fixture meets the constraints of R158 and R208. -/
theorem witness_tables : fixture.wf = true ∧ Config.admissibleTables.wf = true := by decide
/-- `StepKeepsGoodState`: a good state with a byte held steps. -/
theorem witness_StepKeepsGoodState :
    (withAgenda [.started .consumer (.taskIter 0 true)] (ringAt 0#5 31#5 31 0x1C#8)).good = true ∧
      ∃ t, step (withAgenda [.started .consumer (.taskIter 0 true)] (ringAt 0#5 31#5 31 0x1C#8)) = .next t :=
  ⟨by decide, _, rfl⟩
/-- `StepKeepsConfiguration`, `StreamsOnlyGrow`: a step that is no `SETUP`, and one that is. -/
theorem witness_StepKeepsConfiguration :
    ((∃ t, step (withAgenda [.scan 0xE0#8] s2) = .next t) ∧
      ∀ p c rest, (withAgenda [.scan 0xE0#8] s2).env.agenda ≠ .started .consumer (.setup p c) :: rest) ∧
      ∃ t, step (withAgenda [.started .consumer (.setup 1#1 0#3)] s2) = .next t :=
  ⟨⟨⟨_, rfl⟩, fun _ _ _ h => by cases h⟩, ⟨_, rfl⟩⟩
theorem witness_XtInstanceTransmitsNothing :
    x1.proto = .xt ∧ ∃ t, step ((withAgenda [.interrupt] x1).setRcv [{ raw := 0x155#16, answer := .sendCommand 0#8 }]) = .next t :=
  ⟨rfl, _, rfl⟩
theorem witness_ProducerKeepsToItsContext :
    (Instr.rxAt 0x438#11 .enqueueForDecoding).agent = .producer ∧
      ∃ t, exec (.rxAt 0x438#11 .enqueueForDecoding) s2 = .next t := ⟨rfl, _, rfl⟩
theorem witness_ConsumerKeepsToItsContext :
    Instr.rbGet.agent = .consumer ∧ (ringAt 1#5 0#5 0 0x1C#8).env.preempts = [] ∧
      (∃ t, exec .rbGet (ringAt 1#5 0#5 0 0x1C#8) = .next t) ∧ (Instr.decFeed 0#8).agent = .consumer ∧
      (∃ t, exec (.decFeed 0#8) s2 = .next t) ∧ ∀ p c, Instr.rbGet ≠ .setup p c :=
  ⟨rfl, rfl, ⟨_, rfl⟩, rfl, ⟨_, rfl⟩, fun _ _ h => by cases h⟩
theorem witness_ByteClassRunsExactlyWhereItApplies :
    encode (.s2E0OnKey 0x7F#8) = .scan 0x7F#8 ∧ s2.setupDone = true ∧
      decode (at' (.set2 .e0)).context (.scan 0x7F#8) = .ok (.s2E0OnKey 0x7F#8) ∧
      decode s2.context (.scan 0x7F#8) ≠ .ok (.s2E0OnKey 0x7F#8) :=
  ⟨rfl, rfl, rfl, fun h => by cases h⟩

/-- `Set1BytesDecode`: every clause, at the first and the last byte it admits. -/
theorem witness_Set1BytesDecode_init :
    (at' (.set1 .init)).setupDone = true ∧
      (at' (.set1 .init)).dec = .set1 .init ∧
      ((0x00#8 : Byte) ≠ 0xE0#8 ∧ (0x00#8 : Byte) ≠ 0xE1#8 ∧ (0x00#8 : Byte) < 0x80#8) ∧
      ((0x7F#8 : Byte) ≠ 0xE0#8 ∧ (0x7F#8 : Byte) ≠ 0xE1#8 ∧ (0x7F#8 : Byte) < 0x80#8) ∧
      ((0x80#8 : Byte) ≠ 0xE0#8 ∧ (0x80#8 : Byte) ≠ 0xE1#8 ∧ ¬(0x80#8 : Byte) < 0x80#8) ∧
      ((0xFF#8 : Byte) ≠ 0xE0#8 ∧ (0xFF#8 : Byte) ≠ 0xE1#8 ∧ ¬(0xFF#8 : Byte) < 0x80#8) := by decide
theorem witness_Set1BytesDecode_e0 :
    (at' (.set1 .e0)).setupDone = true ∧
      (at' (.set1 .e0)).dec = .set1 .e0 ∧
      ((0x00#8 : Byte) < 0x80#8) ∧
      ((0x7F#8 : Byte) < 0x80#8) ∧
      (¬(0x80#8 : Byte) < 0x80#8) ∧
      (¬(0xFF#8 : Byte) < 0x80#8) := by decide
theorem witness_Set1BytesDecode_e1 :
    (at' (.set1 .e1)).setupDone = true ∧
      (at' (.set1 .e1)).dec = .set1 .e1 ∧
      ((0x00#8 : Byte) ≠ 0x1D#8 ∧ (0x00#8 : Byte) ≠ 0x9D#8) ∧
      ((0xFF#8 : Byte) ≠ 0x1D#8 ∧ (0xFF#8 : Byte) ≠ 0x9D#8) := by decide
theorem witness_Set1BytesDecode_e1x1D :
    (at' (.set1 .e1x1D)).setupDone = true ∧
      (at' (.set1 .e1x1D)).dec = .set1 .e1x1D ∧
      ((0x00#8 : Byte) ≠ 0x45#8) ∧
      ((0xFF#8 : Byte) ≠ 0x45#8) := by decide
theorem witness_Set1BytesDecode_e1x9D :
    (at' (.set1 .e1x9D)).setupDone = true ∧
      (at' (.set1 .e1x9D)).dec = .set1 .e1x9D ∧
      ((0x00#8 : Byte) ≠ 0xC5#8) ∧
      ((0xFF#8 : Byte) ≠ 0xC5#8) := by decide
/-- `Set2BytesDecode`: every clause, at the first and the last byte it admits. -/
theorem witness_Set2BytesDecode_init :
    (at' (.set2 .init)).setupDone = true ∧
      (at' (.set2 .init)).dec = .set2 .init ∧
      ((0x00#8 : Byte) ≠ 0xE0#8 ∧ (0x00#8 : Byte) ≠ 0xF0#8 ∧ (0x00#8 : Byte) ≠ 0xE1#8 ∧ (0x00#8 : Byte) ≠ 0x83#8 ∧ (0x00#8 : Byte) ≠ 0x84#8 ∧ (0x00#8 : Byte) < 0x80#8) ∧
      ((0x7F#8 : Byte) ≠ 0xE0#8 ∧ (0x7F#8 : Byte) ≠ 0xF0#8 ∧ (0x7F#8 : Byte) ≠ 0xE1#8 ∧ (0x7F#8 : Byte) ≠ 0x83#8 ∧ (0x7F#8 : Byte) ≠ 0x84#8 ∧ (0x7F#8 : Byte) < 0x80#8) ∧
      ((0x80#8 : Byte) ≠ 0xE0#8 ∧ (0x80#8 : Byte) ≠ 0xF0#8 ∧ (0x80#8 : Byte) ≠ 0xE1#8 ∧ (0x80#8 : Byte) ≠ 0x83#8 ∧ (0x80#8 : Byte) ≠ 0x84#8 ∧ ¬(0x80#8 : Byte) < 0x80#8) ∧
      ((0xFF#8 : Byte) ≠ 0xE0#8 ∧ (0xFF#8 : Byte) ≠ 0xF0#8 ∧ (0xFF#8 : Byte) ≠ 0xE1#8 ∧ (0xFF#8 : Byte) ≠ 0x83#8 ∧ (0xFF#8 : Byte) ≠ 0x84#8 ∧ ¬(0xFF#8 : Byte) < 0x80#8) := by decide
theorem witness_Set2BytesDecode_f0 :
    (at' (.set2 .f0)).setupDone = true ∧
      (at' (.set2 .f0)).dec = .set2 .f0 ∧
      ((0x00#8 : Byte) ≠ 0x83#8 ∧ (0x00#8 : Byte) ≠ 0x84#8 ∧ (0x00#8 : Byte) < 0x80#8) ∧
      ((0x7F#8 : Byte) ≠ 0x83#8 ∧ (0x7F#8 : Byte) ≠ 0x84#8 ∧ (0x7F#8 : Byte) < 0x80#8) ∧
      ((0x80#8 : Byte) ≠ 0x83#8 ∧ (0x80#8 : Byte) ≠ 0x84#8 ∧ ¬(0x80#8 : Byte) < 0x80#8) ∧
      ((0xFF#8 : Byte) ≠ 0x83#8 ∧ (0xFF#8 : Byte) ≠ 0x84#8 ∧ ¬(0xFF#8 : Byte) < 0x80#8) := by decide
theorem witness_Set2BytesDecode_e0 :
    (at' (.set2 .e0)).setupDone = true ∧
      (at' (.set2 .e0)).dec = .set2 .e0 ∧
      ((0x00#8 : Byte) ≠ 0xF0#8 ∧ (0x00#8 : Byte) < 0x80#8) ∧
      ((0x7F#8 : Byte) ≠ 0xF0#8 ∧ (0x7F#8 : Byte) < 0x80#8) ∧
      ((0x80#8 : Byte) ≠ 0xF0#8 ∧ ¬(0x80#8 : Byte) < 0x80#8) ∧
      ((0xFF#8 : Byte) ≠ 0xF0#8 ∧ ¬(0xFF#8 : Byte) < 0x80#8) := by decide
theorem witness_Set2BytesDecode_e0F0 :
    (at' (.set2 .e0F0)).setupDone = true ∧
      (at' (.set2 .e0F0)).dec = .set2 .e0F0 ∧
      ((0x00#8 : Byte) < 0x80#8) ∧
      ((0x7F#8 : Byte) < 0x80#8) ∧
      (¬(0x80#8 : Byte) < 0x80#8) ∧
      (¬(0xFF#8 : Byte) < 0x80#8) := by decide
theorem witness_Set2BytesDecode_e1 :
    (at' (.set2 .e1)).setupDone = true ∧
      (at' (.set2 .e1)).dec = .set2 .e1 ∧
      ((0x00#8 : Byte) ≠ 0x14#8 ∧ (0x00#8 : Byte) ≠ 0xF0#8) ∧
      ((0xFF#8 : Byte) ≠ 0x14#8 ∧ (0xFF#8 : Byte) ≠ 0xF0#8) := by decide
theorem witness_Set2BytesDecode_e1x14 :
    (at' (.set2 .e1x14)).setupDone = true ∧
      (at' (.set2 .e1x14)).dec = .set2 .e1x14 ∧
      ((0x00#8 : Byte) ≠ 0x77#8) ∧
      ((0xFF#8 : Byte) ≠ 0x77#8) := by decide
theorem witness_Set2BytesDecode_e1F0 :
    (at' (.set2 .e1F0)).setupDone = true ∧
      (at' (.set2 .e1F0)).dec = .set2 .e1F0 ∧
      ((0x00#8 : Byte) ≠ 0x14#8) ∧
      ((0xFF#8 : Byte) ≠ 0x14#8) := by decide
theorem witness_Set2BytesDecode_e1F0x14 :
    (at' (.set2 .e1F0x14)).setupDone = true ∧
      (at' (.set2 .e1F0x14)).dec = .set2 .e1F0x14 ∧
      ((0x00#8 : Byte) ≠ 0xF0#8) ∧
      ((0xFF#8 : Byte) ≠ 0xF0#8) := by decide
theorem witness_Set2BytesDecode_e1F0x14F0 :
    (at' (.set2 .e1F0x14F0)).setupDone = true ∧
      (at' (.set2 .e1F0x14F0)).dec = .set2 .e1F0x14F0 ∧
      ((0x00#8 : Byte) ≠ 0x77#8) ∧
      ((0xFF#8 : Byte) ≠ 0x77#8) := by decide
/-- `Set3BytesDecode`: every clause, at the first and the last byte it admits. -/
theorem witness_Set3BytesDecode_init :
    (at' (.set3 .init)).setupDone = true ∧
      (at' (.set3 .init)).dec = .set3 .init ∧
      (at' (.set3 .init)).tables.wf = true ∧
      (0x7C#8 = (at' (.set3 .init)).tables.set3Remap.first.1 ∧ 0x7C#8 ≠ 0xF0#8) ∧
      (0x7E#8 = (at' (.set3 .init)).tables.set3Remap.second.1 ∧ 0x7E#8 ≠ 0xF0#8) ∧
      (0x84#8 = (at' (.set3 .init)).tables.set3Remap.third.1 ∧ 0x84#8 ≠ 0xF0#8) ∧
      ((0x00#8 : Byte) ≠ 0xF0#8 ∧ fixture.set3Remap.hasFrom 0x00#8 = false ∧ (0x00#8 : Byte) < 0x80#8) ∧
      ((0x7F#8 : Byte) ≠ 0xF0#8 ∧ fixture.set3Remap.hasFrom 0x7F#8 = false ∧ (0x7F#8 : Byte) < 0x80#8) ∧
      ((0x80#8 : Byte) ≠ 0xF0#8 ∧ fixture.set3Remap.hasFrom 0x80#8 = false ∧ ¬(0x80#8 : Byte) < 0x80#8) ∧
      ((0xFF#8 : Byte) ≠ 0xF0#8 ∧ fixture.set3Remap.hasFrom 0xFF#8 = false ∧ ¬(0xFF#8 : Byte) < 0x80#8) := by decide
theorem witness_Set3BytesDecode_f0 :
    (at' (.set3 .f0)).setupDone = true ∧
      (at' (.set3 .f0)).dec = .set3 .f0 ∧
      (at' (.set3 .f0)).tables.wf = true ∧
      (0x7C#8 = (at' (.set3 .f0)).tables.set3Remap.first.1) ∧
      (0x7E#8 = (at' (.set3 .f0)).tables.set3Remap.second.1) ∧
      (0x84#8 = (at' (.set3 .f0)).tables.set3Remap.third.1) ∧
      (fixture.set3Remap.hasFrom 0x00#8 = false ∧ (0x00#8 : Byte) < 0x80#8) ∧
      (fixture.set3Remap.hasFrom 0x7F#8 = false ∧ (0x7F#8 : Byte) < 0x80#8) ∧
      (fixture.set3Remap.hasFrom 0x80#8 = false ∧ ¬(0x80#8 : Byte) < 0x80#8) ∧
      (fixture.set3Remap.hasFrom 0xFF#8 = false ∧ ¬(0xFF#8 : Byte) < 0x80#8) := by decide
/-- `AmigaBytesDecode`: every clause, at the first and the last byte it admits. -/
theorem witness_AmigaBytesDecode_init :
    (at' (.amiga .init)).setupDone = true ∧
      (at' (.amiga .init)).dec = .amiga .init ∧
      ((0x00#8 : Byte).toNat % 128 ≤ fixture.amigaMaxKey.toNat) ∧
      ((0xE7#8 : Byte).toNat % 128 ≤ fixture.amigaMaxKey.toNat) ∧
      (fixture.amigaMaxKey.toNat < (0x68#8 : Byte).toNat % 128) ∧
      (fixture.amigaMaxKey.toNat < (0xFF#8 : Byte).toNat % 128) := by decide
/-- `M0110BytesDecode`: every clause, at the first and the last byte it admits. -/
theorem witness_M0110BytesDecode_init :
    (at' (.m0110 .init)).setupDone = true ∧
      (at' (.m0110 .init)).dec = .m0110 .init ∧
      ((0x00#8 : Byte).getLsbD 0 = false) ∧
      ((0xFE#8 : Byte).getLsbD 0 = false) ∧
      ((0x01#8 : Byte).getLsbD 0 = true ∧ (0x01#8 : Byte) ≠ 0x79#8 ∧ (0x01#8 : Byte) ≠ 0x71#8) ∧
      ((0xFF#8 : Byte).getLsbD 0 = true ∧ (0xFF#8 : Byte) ≠ 0x79#8 ∧ (0xFF#8 : Byte) ≠ 0x71#8) := by decide
theorem witness_M0110BytesDecode_p79 :
    (at' (.m0110 .p79)).setupDone = true ∧
      (at' (.m0110 .p79)).dec = .m0110 .p79 ∧
      ((0x00#8 : Byte).getLsbD 0 = false) ∧
      ((0xFE#8 : Byte).getLsbD 0 = false) ∧
      ((0x01#8 : Byte).getLsbD 0 = true) ∧
      ((0xFF#8 : Byte).getLsbD 0 = true) := by decide
theorem witness_M0110BytesDecode_p71 :
    (at' (.m0110 .p71)).setupDone = true ∧
      (at' (.m0110 .p71)).dec = .m0110 .p71 ∧
      ((0x00#8 : Byte).getLsbD 0 = false) ∧
      ((0xFE#8 : Byte).getLsbD 0 = false) ∧
      ((0x01#8 : Byte).getLsbD 0 = true ∧ (0x01#8 : Byte) ≠ 0x79#8) ∧
      ((0xFF#8 : Byte).getLsbD 0 = true ∧ (0xFF#8 : Byte) ≠ 0x79#8) := by decide
theorem witness_M0110BytesDecode_p71x79 :
    (at' (.m0110 .p71x79)).setupDone = true ∧
      (at' (.m0110 .p71x79)).dec = .m0110 .p71x79 ∧
      ((0x00#8 : Byte).getLsbD 0 = false) ∧
      ((0xFE#8 : Byte).getLsbD 0 = false) ∧
      ((0x01#8 : Byte).getLsbD 0 = true) ∧
      ((0xFF#8 : Byte).getLsbD 0 = true) := by decide

end Sys2Proof.Tests
end

section
/-! SUPPORT. The boundary between two micro-steps of the consumer (R10): the words taken at it, said through `exec`, and what
it leaves unchanged. -/

namespace Sys2Proof.Machine

/-! ## The operations of the producer as `exec` gives them -/

@[simp] theorem answer_answer (s : State) (r q : CallResult) : (s.answer r).answer q = s.answer q := rfl

theorem answer_eq_self {s : State} {r : CallResult} (h : s.result = r) : s.answer r = s := by subst h; rfl

theorem setPreempts_eq_self {s : State} {l : List Nat} (h : s.env.preempts = l) : s.setPreempts l = s := by subst h; rfl

@[simp] theorem setPreempts_setPreempts (s : State) (l m : List Nat) : (s.setPreempts l).setPreempts m = s.setPreempts m :=
  rfl

theorem exec_rxAt (w : AtFrame) (a : Action) (s : State) (hs : s.setupDone = true) (hp : s.proto = .atPs2) :
    exec (.rxAt w a) s = .next ((rxAtBody w a s).answer .none) := by
  simp [exec, execRxAt, underProto, afterSetup, hs, hp]

theorem exec_rxXt (w : XtFrame) (a : Action) (s : State) (hs : s.setupDone = true) (hp : s.proto = .xt) :
    exec (.rxXt w a) s = .next ((rxXtBody w a s).answer .none) := by
  simp [exec, execRxXt, underProto, afterSetup, hs, hp]

/-- The operation that belongs to a waiting word is what the producer does with it (R231), its result apart. -/
theorem exec_wordOperation {s t : State} (f : Frame) (hs : t.setupDone = true) (hp : t.proto = s.proto) :
    exec (wordOperation s f) t = .next ((receive f t).answer .none) := by
  unfold wordOperation receive
  cases h : s.proto with
  | atPs2 => simp only [hp, h, exec_rxAt _ _ t hs (hp.trans h)]
  | xt => simp only [hp, h, exec_rxXt _ _ t hs (hp.trans h)]

@[simp] theorem receive_result (f : Frame) (s : State) : (receive f s).result = s.result := (receive_spec f s).1.result
@[simp] theorem receive_setupDone (f : Frame) (s : State) : (receive f s).setupDone = s.setupDone :=
  (receive_spec f s).1.setupDone
@[simp] theorem receive_env (f : Frame) (s : State) : (receive f s).env = s.env := (receive_spec f s).2.1

/-- The words a boundary takes are run by `RX.AT` or `RX.XT`, one after the other (R10, R231). -/
theorem runWords_eq (n : Nat) (s : State) (hs : s.setupDone = true) : runWords n s = .next (runProducer n s) := by
  induction n generalizing s with
  | zero => rfl
  | succ n ih =>
    cases hi : s.irqEn with
    | false => simp [runWords, runProducer, hi]
    | true =>
      cases hr : s.env.rcv with
      | nil => simp [runWords, runProducer, hi, hr]
      | cons f rest =>
        have hx := exec_wordOperation (s := s) (t := s.setRcv rest) f hs rfl
        have hself : (receive f (s.setRcv rest)).answer s.result = receive f (s.setRcv rest) :=
          answer_eq_self (receive_result f _)
        simp only [runWords, runProducer, hi, hr, hx, andThen_next, answer_answer, hself]
        exact ih _ ((receive_setupDone f _).trans hs)

theorem preempt_cons {s : State} {n : Nat} {rest : List Nat} (h : s.env.preempts = n :: rest) :
    preempt s = runProducer n (s.setPreempts rest) := by
  simp only [preempt, h]

theorem atBoundary_eq (s : State) (hs : s.setupDone = true) : atBoundary s = .next (preempt s) := by
  cases h : s.env.preempts with
  | nil => simp only [atBoundary, h, preempt_undisturbed s h]
  | cons n rest => simp only [atBoundary, h, preempt_cons h, runWords_eq n (s.setPreempts rest) hs]

/-- Where no word waits the producer takes nothing (R231). -/
theorem runProducer_no_words (n : Nat) (s : State) (h : s.env.rcv = []) : runProducer n s = s := by
  cases n <;> simp [runProducer, h]

/-- Where no word waits a boundary only uses up its entry of the schedule (R231). -/
theorem preempt_no_words (s : State) (h : s.env.rcv = []) : preempt s = s.setPreempts s.env.preempts.tail := by
  unfold preempt
  split
  · next e => rw [setPreempts_eq_self (by rw [e, List.tail_nil])]
  · next n rest e => rw [runProducer_no_words n (s.setPreempts rest) h, e, List.tail_cons]

/-- A boundary takes its first word, and the rest of the entry is one boundary more (R10, R231). -/
theorem preempt_succ {s : State} {n : Nat} {rest : List Nat} {f : Frame} {words : List Frame}
    (hp : s.env.preempts = (n + 1) :: rest) (hi : s.irqEn = true) (hr : s.env.rcv = f :: words) :
    preempt s = preempt ((receive f ((s.setPreempts rest).setRcv words)).setPreempts (n :: rest)) := by
  have hself : (receive f ((s.setPreempts rest).setRcv words)).setPreempts rest =
      receive f ((s.setPreempts rest).setRcv words) :=
    setPreempts_eq_self (congrArg Inputs.preempts (receive_env f _))
  rw [preempt_cons hp, preempt_cons (setPreempts_env_preempts _ _), setPreempts_setPreempts, hself]
  simp [runProducer, hi, hr]

/-- Settles O53: `atBoundary_eq` for what is said through `exec`, `preempt_succ` for the words one after the other. -/
theorem boundaryRunsTheOldestWords : Obligations.BoundaryRunsTheOldestWords := by
  intro s hs
  refine ⟨atBoundary_eq s hs, preempt_undisturbed s, preempt_masked s, preempt_env s, ?_, preempt_no_words s, ?_⟩
  · intro rest h
    rw [preempt_cons h, runProducer]
  · intro n rest f words hp hi hr
    have hself : (receive f ((s.setPreempts rest).setRcv words)).answer s.result =
        receive f ((s.setPreempts rest).setRcv words) := answer_eq_self (receive_result f _)
    refine ⟨_, exec_wordOperation f hs rfl, ?_⟩
    rw [answer_answer, hself, preempt_succ hp hi hr]

/-! ## What a boundary leaves unchanged, field by field -/

@[simp] theorem preempt_proto (s : State) : (preempt s).proto = s.proto := (preempt_spec s).1.proto
@[simp] theorem preempt_framing (s : State) : (preempt s).framing = s.framing := (preempt_spec s).1.framing
@[simp] theorem preempt_tables (s : State) : (preempt s).tables = s.tables := (preempt_spec s).1.tables
@[simp] theorem preempt_setupDone (s : State) : (preempt s).setupDone = s.setupDone := (preempt_spec s).1.setupDone
@[simp] theorem preempt_dec (s : State) : (preempt s).dec = s.dec := (preempt_spec s).1.dec
@[simp] theorem preempt_irqEn (s : State) : (preempt s).irqEn = s.irqEn := (preempt_spec s).1.irqEn
@[simp] theorem preempt_env_agenda (s : State) : (preempt s).env.agenda = s.env.agenda := (preempt_spec s).1.agenda
@[simp] theorem preempt_out_hid (s : State) : (preempt s).out.hid = s.out.hid := (preempt_spec s).1.hid
@[simp] theorem preempt_rb_tail (s : State) : (preempt s).rb.tail = s.rb.tail := (preempt_spec s).1.tail

/-- A byte that is held at a boundary is still the oldest one after it (R22, R125). -/
theorem preempt_keeps_oldest {s : State} (he : s.rb.head ≠ s.rb.tail) :
    (preempt s).rb.head ≠ s.rb.tail ∧
      Memory.read (preempt s).rb.buf s.rb.tail.toNat = Memory.read s.rb.buf s.rb.tail.toNat := by
  obtain ⟨_, bs, hb⟩ := preempt_spec s
  rw [hb]
  exact (ringAdds_keep_oldest bs s.rb he).2

/-- Bytes put into an empty ring leave it empty, or with a byte in the slot at `rb.tail` (R28, R124). -/
theorem ringAdds_oldest_written (bs : List Byte) (r : Ring) (he : r.head = r.tail)
    (hne : (bs.foldl ringAdd r).head ≠ r.tail) : ∃ v, Memory.read (bs.foldl ringAdd r).buf r.tail.toNat = some v := by
  cases bs with
  | nil => exact absurd he hne
  | cons b bs =>
    have hroom : nextIndex r.head ≠ r.tail := by rw [he]; unfold nextIndex; bv_omega
    have hadd : ringAdd r b = { buf := Memory.write r.buf r.head.toNat b, head := nextIndex r.head, tail := r.tail } :=
      if_neg hroom
    obtain ⟨_, _, hread⟩ := ringAdds_keep_oldest bs (ringAdd r b) (by rw [hadd]; exact hroom)
    rw [ringAdd_tail] at hread
    exact ⟨b, by rw [List.foldl_cons, hread, hadd, he]; exact memory_read_write_same _ _ _⟩

theorem preempt_oldest_written {s : State} (he : s.rb.head = s.rb.tail) (hne : (preempt s).rb.head ≠ s.rb.tail) :
    ∃ v, Memory.read (preempt s).rb.buf s.rb.tail.toNat = some v := by
  obtain ⟨_, bs, hb⟩ := preempt_spec s
  rw [hb] at hne ⊢
  exact ringAdds_oldest_written bs s.rb he hne

/-- Bytes put at a boundary are held after those held before (R28). -/
theorem preempt_held (s : State) :
    ∃ put : List Byte, held (preempt s) = held s ++ put ∧ (preempt s).rb.head = s.rb.head + BitVec.ofNat 5 put.length := by
  obtain ⟨_, bs, hb⟩ := preempt_spec s
  rw [held_eq, held_eq, hb]
  exact ringAdds_held bs s.rb

end Sys2Proof.Machine
end

section
/-! SUPPORT. The boundaries of an operation of the consumer, counted: which waiting words they take, and, while the producer
is masked, that the consumer alone changes the state (R10, R280). -/

namespace Sys2Proof.Machine

/-- What the consumer's own micro-steps leave alone of the producer's side, and what they record: the calls `calls` and the
diagnostics `diags`. -/
structure ConsumerAlone (calls : List Ask) (diags : List Diag) (s t : State) : Prop where
  head : t.rb.head = s.rb.head
  buf : t.rb.buf = s.rb.buf
  rcv : t.env.rcv = s.env.rcv
  tx : t.out.tx = s.out.tx
  rcvctl : t.out.rcvctl = s.out.rcvctl
  sesctl : t.out.sesctl = s.out.sesctl
  asks : t.out.asks = s.out.asks ++ calls
  diag : t.out.diag = s.out.diag ++ diags

theorem ConsumerAlone.trans {c d : List Ask} {p q : List Diag} {s t u : State} (h : ConsumerAlone c p s t)
    (k : ConsumerAlone d q t u) : ConsumerAlone (c ++ d) (p ++ q) s u where
  head := k.head.trans h.head
  buf := k.buf.trans h.buf
  rcv := k.rcv.trans h.rcv
  tx := k.tx.trans h.tx
  rcvctl := k.rcvctl.trans h.rcvctl
  sesctl := k.sesctl.trans h.sesctl
  asks := by rw [k.asks, h.asks, List.append_assoc]
  diag := by rw [k.diag, h.diag, List.append_assoc]

/-- Micro-steps of the consumer with `n` boundaries between them: each boundary uses up one entry of the schedule, and, while
`irq_en` is 1, takes as many of the oldest waiting words as it asks for; while masked the consumer is alone (R10, R231,
R280). -/
structure Boundaries (n : Nat) (calls : List Ask) (diags : List Diag) (s t : State) : Prop where
  irqEn : t.irqEn = s.irqEn
  preempts : t.env.preempts = s.env.preempts.drop n
  taken : s.irqEn = true → t.env.rcv = s.env.rcv.drop (s.env.preempts.take n).sum
  masked : s.irqEn = false → ConsumerAlone calls diags s t

theorem Boundaries.trans {m n : Nat} {c d : List Ask} {p q : List Diag} {s t u : State} (h : Boundaries m c p s t)
    (k : Boundaries n d q t u) : Boundaries (m + n) (c ++ d) (p ++ q) s u where
  irqEn := k.irqEn.trans h.irqEn
  preempts := by rw [k.preempts, h.preempts, List.drop_drop]
  taken e := by
    rw [k.taken (h.irqEn.trans e), h.taken e, h.preempts, List.drop_drop, List.take_add, List.sum_append]
  masked e := (h.masked e).trans (k.masked (h.irqEn.trans e))

/-- As `Boundaries.trans`, where the second part records no diagnostic. -/
theorem Boundaries.then_calls {m n : Nat} {c d : List Ask} {p : List Diag} {s t u : State} (h : Boundaries m c p s t)
    (k : Boundaries n d [] t u) : Boundaries (m + n) (c ++ d) p s u := by
  have htrans := h.trans k
  rwa [List.append_nil] at htrans

/-- A micro-step of the consumer holds no boundary. -/
theorem Boundaries.of_own {c : List Ask} {p : List Diag} {s t : State} (hi : t.irqEn = s.irqEn) (he : t.env = s.env)
    (h : ConsumerAlone c p s t) : Boundaries 0 c p s t where
  irqEn := hi
  preempts := by rw [he, List.drop_zero]
  taken _ := by rw [he, List.take_zero, List.sum_nil, List.drop_zero]
  masked _ := h

theorem sum_take_one (l : List Nat) : (l.take 1).sum = l.headD 0 := by
  cases l <;> simp

theorem preempt_boundaries (s : State) : Boundaries 1 [] [] s (preempt s) where
  irqEn := preempt_irqEn s
  preempts := by
    cases h : s.irqEn with
    | false => rw [preempt_masked s h, setPreempts_env_preempts, List.drop_one]
    | true => rw [preempt_env s h, List.drop_one]
  taken h := by
    rw [preempt_env s h, sum_take_one]
  masked h := by rw [preempt_masked s h]; constructor <;> simp

theorem ask_boundaries (s : State) (a : Ask) : Boundaries 0 [a] [] s (s.ask a) :=
  .of_own rfl rfl (by constructor <;> simp)

theorem setTail_boundaries (s : State) (i : Index) : Boundaries 0 [] [] s (s.setTail i) :=
  .of_own rfl rfl (by constructor <;> simp)

theorem emitHid_boundaries (s : State) (e : KeyEvent) : Boundaries 0 [] [] s (s.emitHid e) :=
  .of_own rfl rfl (by constructor <;> simp)

theorem answer_boundaries (s : State) (r : CallResult) : Boundaries 0 [] [] s (s.answer r) :=
  .of_own rfl rfl (by constructor <;> simp)

end Sys2Proof.Machine
end

section
/-! `RB.GET` under every interleaving with the producer (R10, R125). -/

namespace Sys2Proof.Machine

theorem exec_rbGet_some (s : State) (v : Byte) (hs : s.setupDone = true) (he : s.rb.head ≠ s.rb.tail)
    (hv : Memory.read s.rb.buf s.rb.tail.toNat = some v) :
    exec .rbGet s = .next (((preempt (preempt s)).setTail (s.rb.tail + 1#5)).answer (.got v true)) := by
  obtain ⟨hgot, hstate, _⟩ := ringGet_some s v he hv
  simp [exec, execRbGet, afterSetup, hs, hgot, hstate, nextIndex]

/-- Settles O22: the next state is that of `exec_rbGet_some`, the bytes held are those of `ringHeld_get`. -/
theorem getUnderInterleaving : Obligations.GetUnderInterleaving := by
  intro s v hs he hv
  obtain ⟨_, hstate, bs, hring⟩ := ringGet_some s v he hv
  obtain ⟨put, hheld, hhead⟩ := ringHeld_get s.rb v bs he hv
  rw [hstate] at hring
  have hall : Boundaries 2 [] [] s (((preempt (preempt s)).setTail (s.rb.tail + 1#5)).answer (.got v true)) :=
    (((preempt_boundaries s).trans (preempt_boundaries _)).trans (setTail_boundaries _ _)).trans (answer_boundaries _ _)
  refine ⟨_, put, exec_rbGet_some s v hs he hv, rfl, rfl, ?_, ?_, by simp, by simp, by simp, by simp, by simp, by simp,
    by simp, ?_, hall.preempts, ?_, hall.taken⟩
  · rw [held_eq, hheld, ← hring]; rfl
  · rw [← hhead, ← congrArg Ring.head hring]; rfl
  · exact ⟨_, _, atBoundary_eq s hs, atBoundary_eq _ (by simpa using hs), rfl⟩
  · intro hm
    simp [preempt_masked, hm]

end Sys2Proof.Machine
end

section
/-! `TASK.ITER` is its micro-steps with a boundary between each two (R10, R236). -/

namespace Sys2Proof.Machine

theorem exec_taskIter (now : Nat) (ready : Bool) (s : State) (hs : s.setupDone = true) :
    exec (.taskIter now ready) s = .next ((taskIterBody now ready s).answer .none) := by
  simp [exec, execTaskIter, afterSetup, hs]

theorem taskIterBody_not_ready (now : Nat) (s : State) :
    taskIterBody now false s = (preempt (s.ask .hidReady)).ask (.onTick now) := rfl

theorem taskIterBody_ready (now : Nat) (s : State) :
    taskIterBody now true s = (preempt (drain (preempt (s.ask .hidReady)))).ask (.onTick now) := rfl

theorem drain_empty {s : State} (he : s.rb.head = s.rb.tail) : drain s = s := by
  simp [drain, rbEmpty, he]

@[simp] theorem feed_setupDone (b : Byte) (s : State) : (feed b s).setupDone = s.setupDone := by
  obtain ⟨_, h⟩ := feed_frame b s
  rw [h]

/-- Settles O54: the boundaries by `atBoundary_eq`, the drained byte micro-step by micro-step by `drain_eq`. -/
theorem taskIterIsItsMicroSteps : Obligations.TaskIterIsItsMicroSteps := by
  intro s now hs
  refine ⟨_, atBoundary_eq (s.ask .hidReady) hs, exec_taskIter now false s hs, ?_, ?_⟩
  · intro he
    refine ⟨_, atBoundary_eq _ (by simpa using hs), ?_⟩
    rw [exec_taskIter now true s hs, taskIterBody_ready, drain_empty he]
  · intro v he hv
    have hdrain := drain_eq _ v he hv
    simp only [preempt_tables, preempt_dec, preempt_rb_tail, ask_tables, ask_dec, ask_rb] at hdrain
    rw [exec_taskIter now true s hs, taskIterBody_ready, hdrain]
    refine ⟨_, _, _, _, _, atBoundary_eq _ (by simpa using hs), atBoundary_eq _ (by simpa using hs),
      atBoundary_eq _ (by simpa using hs), atBoundary_eq _ (by simpa using hs), ?_, rfl⟩
    cases (stepDecoder s.tables s.dec v).event with
    | none => exact atBoundary_eq _ (by simpa using hs)
    | some ev => exact ⟨_, atBoundary_eq _ (by simpa using hs), atBoundary_eq _ (by simpa using hs)⟩

end Sys2Proof.Machine
end

section
/-! `TASK.ITER` under every interleaving with the producer (R10, R236 to R239): its boundaries counted, and what becomes of the
byte it drains. -/

namespace Sys2Proof.Machine

/-! ## The micro-steps of a drained byte -/

/-- What feeding a byte in a decoder state records (R142, R275). -/
def feedDiags (tb : Tables) (d : DecState) (b : Byte) : List Diag :=
  if (stepDecoder tb d b).error then [.sequenceError d b] else []

theorem feed_eq (b : Byte) (s : State) :
    feed b s = { s with
      dec := (stepDecoder s.tables s.dec b).next
      out := { s.out with diag := s.out.diag ++ feedDiags s.tables s.dec b } } := by
  have h := stepDecoder_lawful s.tables s.dec b
  rcases applyTransition_spec h b s with ⟨he, e⟩ | ⟨he, e⟩
  · rw [feed, e, feedDiags, he]; simp [State.setDec]
  · rw [feed, e, feedDiags, he, (h.error he).1]; rfl

@[simp] theorem feed_rb (b : Byte) (s : State) : (feed b s).rb = s.rb := by rw [feed_eq]
@[simp] theorem feed_out_hid (b : Byte) (s : State) : (feed b s).out.hid = s.out.hid := by rw [feed_eq]

theorem feed_boundaries (b : Byte) (s : State) : Boundaries 0 [] (feedDiags s.tables s.dec b) s (feed b s) := by
  rw [feed_eq]
  exact .of_own rfl rfl (by constructor <;> simp)

/-- Reading a slot uses up a free byte where nothing was written (U3), and changes nothing else. -/
theorem readSlot_state (s : State) : (readSlot s).2 = s ∨ (readSlot s).2 = s.useFree := by
  unfold readSlot takeFree
  split <;> simp

@[simp] theorem readSlot_tables (s : State) : (readSlot s).2.tables = s.tables := by
  rcases readSlot_state s with h | h <;> simp [h]
@[simp] theorem readSlot_dec (s : State) : (readSlot s).2.dec = s.dec := by
  rcases readSlot_state s with h | h <;> simp [h]
@[simp] theorem readSlot_rb (s : State) : (readSlot s).2.rb = s.rb := by
  rcases readSlot_state s with h | h <;> simp [h]
@[simp] theorem readSlot_out (s : State) : (readSlot s).2.out = s.out := by
  rcases readSlot_state s with h | h <;> simp [h]

theorem readSlot_boundaries (s : State) : Boundaries 0 [] [] s (readSlot s).2 := by
  rcases readSlot_state s with h | h <;> rw [h] <;> exact .of_own rfl rfl (by constructor <;> simp)

theorem readSlot_some {s : State} {v : Byte} (hv : Memory.read s.rb.buf s.rb.tail.toNat = some v) :
    readSlot s = (v, s) := by
  simp [readSlot, hv]

theorem deliverEvent_boundaries (e : Option KeyEvent) (s : State) :
    Boundaries e.toList.length [] [] s (deliverEvent e s) := by
  cases e with
  | none => exact .of_own rfl rfl (by constructor <;> simp [deliverEvent])
  | some ev => exact (preempt_boundaries s).trans (emitHid_boundaries _ ev)

@[simp] theorem deliverEvent_out_hid (e : Option KeyEvent) (s : State) :
    (deliverEvent e s).out.hid = s.out.hid ++ e.toList := by
  obtain ⟨_, _, _, h, _⟩ := deliverEvent_spec e s
  exact h

@[simp] theorem deliverEvent_dec (e : Option KeyEvent) (s : State) : (deliverEvent e s).dec = s.dec := by
  obtain ⟨_, _, h, _⟩ := deliverEvent_spec e s
  exact h

@[simp] theorem deliverEvent_rb_tail (e : Option KeyEvent) (s : State) : (deliverEvent e s).rb.tail = s.rb.tail := by
  obtain ⟨bs, h, _⟩ := deliverEvent_spec e s
  rw [h, ringAdds_tail]

/-- The state in which the byte taken from a ring with bytes is fed: after the boundaries before and inside `RB.GET`, the
read and the release of the slot, and the boundary after it (R125, R236). -/
def beforeFeed (s : State) : State := preempt (releaseSlot (preempt (readSlot (preempt (preempt s))).2))

/-- The byte that is taken from a ring with bytes (R125). -/
def takenByte (s : State) : Byte := (readSlot (preempt (preempt s))).1

@[simp] theorem beforeFeed_tables (s : State) : (beforeFeed s).tables = s.tables := by simp [beforeFeed, releaseSlot]
@[simp] theorem beforeFeed_dec (s : State) : (beforeFeed s).dec = s.dec := by simp [beforeFeed, releaseSlot]
@[simp] theorem beforeFeed_out_hid (s : State) : (beforeFeed s).out.hid = s.out.hid := by simp [beforeFeed, releaseSlot]
@[simp] theorem beforeFeed_rb_tail (s : State) : (beforeFeed s).rb.tail = nextIndex s.rb.tail := by
  simp [beforeFeed, releaseSlot]

theorem beforeFeed_boundaries (s : State) : Boundaries 4 [] [] s (beforeFeed s) :=
  (preempt_boundaries s).trans <| (preempt_boundaries _).trans <| (readSlot_boundaries _).trans <|
    (preempt_boundaries _).trans <| (setTail_boundaries _ _).trans <| preempt_boundaries _

/-- The byte taken is the one in the slot at `rb.tail` at the start, whatever the producer puts meanwhile (R22, R125). -/
theorem takenByte_eq {s : State} {v : Byte} (he : s.rb.head ≠ s.rb.tail)
    (hv : Memory.read s.rb.buf s.rb.tail.toNat = some v) : takenByte s = v := by
  obtain ⟨he1, hv1⟩ := preempt_keeps_oldest he
  obtain ⟨_, hv2⟩ := preempt_keeps_oldest (s := preempt s) (by rwa [preempt_rb_tail])
  rw [preempt_rb_tail] at hv2
  rw [takenByte, readSlot_some (v := v) (by rw [preempt_rb_tail, preempt_rb_tail, hv2, hv1, hv])]

/-- A drained byte, also where the slot at `rb.tail` holds no value: it is fed and its event delivered (R236). -/
theorem drain_nonempty {s : State} (he : s.rb.head ≠ s.rb.tail) :
    drain s = deliverEvent (stepDecoder s.tables s.dec (takenByte s)).event (feed (takenByte s) (beforeFeed s)) := by
  have he1 := (preempt_keeps_oldest he).1
  have hget : ringGet (preempt s) = (releaseSlot (preempt (readSlot (preempt (preempt s))).2), takenByte s, true) := by
    simp [ringGet, rbEmpty, he1, takenByte]
  have hfeed : drain s = deliverEvent (feedEvent (takenByte s) (beforeFeed s)) (feed (takenByte s) (beforeFeed s)) := by
    simp [drain, rbEmpty, he, hget, beforeFeed]
  rw [hfeed, feedEvent, beforeFeed_tables, beforeFeed_dec]

theorem drain_boundaries {s : State} (he : s.rb.head ≠ s.rb.tail) :
    Boundaries (4 + (stepDecoder s.tables s.dec (takenByte s)).event.toList.length) []
      (feedDiags s.tables s.dec (takenByte s)) s (drain s) := by
  have hfeed := feed_boundaries (takenByte s) (beforeFeed s)
  rw [beforeFeed_tables, beforeFeed_dec] at hfeed
  rw [drain_nonempty he]
  exact ((beforeFeed_boundaries s).trans hfeed).then_calls (deliverEvent_boundaries _ _)

/-! ## The iteration -/

/-- With the sink not ready there is one boundary, after `HID.ready` (R237). -/
theorem taskIter_not_ready_boundaries (now : Nat) (s : State) :
    Boundaries 1 [.hidReady, .onTick now] [] s ((taskIterBody now false s).answer .none) :=
  (ask_boundaries s _).trans <| (preempt_boundaries _).trans <| (ask_boundaries _ _).trans (answer_boundaries _ _)

/-- With the sink ready and the ring empty after `HID.ready` there is one boundary more (R236). -/
theorem taskIter_empty_boundaries (now : Nat) {s : State}
    (he : (preempt (s.ask .hidReady)).rb.head = (preempt (s.ask .hidReady)).rb.tail) :
    Boundaries 2 [.hidReady, .onTick now] [] s ((taskIterBody now true s).answer .none) := by
  rw [taskIterBody_ready, drain_empty he]
  exact (ask_boundaries s _).trans <| (preempt_boundaries _).trans <| (preempt_boundaries _).trans <|
    (ask_boundaries _ _).trans (answer_boundaries _ _)

/-- An iteration that drains a byte has six boundaries, and a seventh where there is an event to deliver (R236). -/
theorem taskIter_drained_boundaries (now : Nat) {s : State} {v : Byte}
    (he : (preempt (s.ask .hidReady)).rb.head ≠ (preempt (s.ask .hidReady)).rb.tail)
    (hv : takenByte (preempt (s.ask .hidReady)) = v) :
    Boundaries (6 + (stepDecoder s.tables s.dec v).event.toList.length) [.hidReady, .onTick now]
      (feedDiags s.tables s.dec v) s ((taskIterBody now true s).answer .none) := by
  have hasked : Boundaries 1 [.hidReady] [] s (preempt (s.ask .hidReady)) :=
    (ask_boundaries s _).trans (preempt_boundaries _)
  have hdrain := drain_boundaries he
  rw [preempt_tables, preempt_dec, ask_tables, ask_dec, hv] at hdrain
  have htick : Boundaries 1 [.onTick now] [] (drain (preempt (s.ask .hidReady))) ((taskIterBody now true s).answer .none) :=
    (preempt_boundaries _).trans <| (ask_boundaries _ _).trans (answer_boundaries _ _)
  have hcount (n : Nat) : 6 + n = 1 + (4 + n) + 1 := by omega
  rw [hcount]
  exact (hasked.trans hdrain).then_calls htick

/-- What an iteration that drains a byte does to the tail, the decoder and `hid` (R236, R238, R239). -/
theorem taskIter_drained (now : Nat) {s : State} {v : Byte}
    (he : (preempt (s.ask .hidReady)).rb.head ≠ (preempt (s.ask .hidReady)).rb.tail)
    (hv : takenByte (preempt (s.ask .hidReady)) = v) :
    (taskIterBody now true s).rb.tail = s.rb.tail + 1#5 ∧
      (taskIterBody now true s).dec = (stepDecoder s.tables s.dec v).next ∧
      (taskIterBody now true s).out.hid = s.out.hid ++ (stepDecoder s.tables s.dec v).event.toList := by
  rw [taskIterBody_ready, drain_nonempty he, hv]
  simp [nextIndex, feed_dec]

/-- Where the ring is empty after `HID.ready`, tail, decoder and `hid` stay as they are (R236). -/
theorem taskIter_empty (now : Nat) {s : State}
    (he : (preempt (s.ask .hidReady)).rb.head = (preempt (s.ask .hidReady)).rb.tail) :
    (taskIterBody now true s).rb.tail = s.rb.tail ∧ (taskIterBody now true s).dec = s.dec ∧
      (taskIterBody now true s).out.hid = s.out.hid := by
  rw [taskIterBody_ready, drain_empty he]
  simp

theorem taskIter_not_ready (now : Nat) (s : State) :
    (taskIterBody now false s).rb.tail = s.rb.tail ∧ (taskIterBody now false s).dec = s.dec ∧
      (taskIterBody now false s).out.hid = s.out.hid := by
  rw [taskIterBody_not_ready]
  simp

/-- A byte in the slot at `rb.tail` at the start is the one drained, whatever is put meanwhile (R22, R125). -/
theorem taskIter_takes_oldest {s : State} {v : Byte} (he : s.rb.head ≠ s.rb.tail)
    (hv : Memory.read s.rb.buf s.rb.tail.toNat = some v) :
    (preempt (s.ask .hidReady)).rb.head ≠ (preempt (s.ask .hidReady)).rb.tail ∧
      Memory.read (preempt (s.ask .hidReady)).rb.buf (preempt (s.ask .hidReady)).rb.tail.toNat = some v := by
  obtain ⟨hne, hread⟩ := preempt_keeps_oldest (s := s.ask .hidReady) he
  rw [preempt_rb_tail]
  exact ⟨hne, hread.trans hv⟩

/-- The bytes put at the boundary after `HID.ready`, those put while a byte is drained and those put at the last boundary:
none is lost (R28, R239). -/
theorem taskIter_held (now : Nat) {s : State} {v : Byte} (he : s.rb.head ≠ s.rb.tail)
    (hv : Memory.read s.rb.buf s.rb.tail.toNat = some v) :
    ∃ put : List Byte, held s ++ put = v :: held (taskIterBody now true s) ∧
      (taskIterBody now true s).rb.head = s.rb.head + BitVec.ofNat 5 put.length := by
  obtain ⟨he', hv'⟩ := taskIter_takes_oldest he hv
  obtain ⟨put1, held1, head1⟩ := preempt_held (s.ask .hidReady)
  obtain ⟨_, _, _, _, _, _, put2, held2, head2⟩ := drain_some _ v he' hv'
  obtain ⟨put3, held3, head3⟩ := preempt_held (drain (preempt (s.ask .hidReady)))
  refine ⟨put1 ++ put2 ++ put3, ?_, ?_⟩
  · calc held s ++ (put1 ++ put2 ++ put3)
        = held (preempt (s.ask .hidReady)) ++ put2 ++ put3 := by simp [held1, held_eq]
      _ = v :: (held (drain (preempt (s.ask .hidReady))) ++ put3) := by rw [held_eq, held2]; rfl
      _ = v :: held (taskIterBody now true s) := by rw [← held3]; rfl
  · calc (taskIterBody now true s).rb.head
        = (drain (preempt (s.ask .hidReady))).rb.head + BitVec.ofNat 5 put3.length := head3
      _ = s.rb.head + BitVec.ofNat 5 (put1 ++ put2 ++ put3).length := by
        simp only [head2, head1, List.length_append, BitVec.ofNat_add, BitVec.add_assoc]; rfl

/-! ## Either answer of the sink -/

theorem taskIter_completes (s : State) (now : Nat) (ready : Bool) :
    ∃ es : List KeyEvent,
      ((taskIterBody now ready s).rb.tail = s.rb.tail ∨ (taskIterBody now ready s).rb.tail = s.rb.tail + 1#5) ∧
      (taskIterBody now ready s).out.hid = s.out.hid ++ es ∧ es.length ≤ 1 ∧
      ∃ (n : Nat) (diags : List Diag),
        Boundaries n [.hidReady, .onTick now] diags s ((taskIterBody now ready s).answer .none) := by
  cases ready with
  | false =>
    obtain ⟨htail, _, hhid⟩ := taskIter_not_ready now s
    exact ⟨[], .inl htail, by simp [hhid], by simp, _, _, taskIter_not_ready_boundaries now s⟩
  | true =>
    by_cases he : (preempt (s.ask .hidReady)).rb.head = (preempt (s.ask .hidReady)).rb.tail
    · obtain ⟨htail, _, hhid⟩ := taskIter_empty now he
      exact ⟨[], .inl htail, by simp [hhid], by simp, _, _, taskIter_empty_boundaries now he⟩
    · obtain ⟨htail, _, hhid⟩ := taskIter_drained now he rfl
      exact ⟨_, .inr htail, hhid, Option.length_toList_le, _, _, taskIter_drained_boundaries now he rfl⟩

/-- Settles O40: `taskIter_completes` for either answer of the sink, then an iteration that drains the byte held, one that
finds the ring empty at its start, and one with the sink not ready. -/
theorem taskIterUnderInterleaving : Obligations.TaskIterUnderInterleaving := by
  intro s now hs
  refine ⟨?_, ?_, ?_, ?_⟩
  · intro ready
    obtain ⟨es, htail, hhid, hlen, _, _, hb⟩ := taskIter_completes s now ready
    refine ⟨_, es, exec_taskIter now ready s hs, htail, hhid, hlen, fun hm => ?_⟩
    have h := hb.masked hm
    exact ⟨h.head, h.buf, h.rcv, h.tx, h.rcvctl, h.sesctl, h.asks⟩
  · intro v he hv
    obtain ⟨he', hv'⟩ := taskIter_takes_oldest he hv
    have htaken := takenByte_eq he' hv'
    obtain ⟨htail, hdec, hhid⟩ := taskIter_drained now he' htaken
    obtain ⟨put, hheld, hhead⟩ := taskIter_held now he hv
    obtain ⟨_, _, htables, hframing, hproto, _, _⟩ := drain_some _ v he' hv'
    have hb := taskIter_drained_boundaries now he' htaken
    refine ⟨_, put, exec_taskIter now true s hs, htail, hdec, hhid, hheld, hhead, ?_, ?_, ?_, hb.preempts, ?_, hb.taken⟩
    · simp [taskIterBody_ready, hproto]
    · simp [taskIterBody_ready, htables]
    · simp [taskIterBody_ready, hframing]
    · intro hm
      rw [(hb.masked hm).diag, feed_eq]
  · intro he
    refine ⟨_, _, atBoundary_eq (s.ask .hidReady) hs, exec_taskIter now true s hs, taskIter_empty now, ?_⟩
    intro hne
    obtain ⟨v, hv⟩ := preempt_oldest_written (s := s.ask .hidReady) he (by rwa [preempt_rb_tail] at hne)
    have htaken := takenByte_eq hne (by rwa [preempt_rb_tail])
    exact ⟨v, hv, taskIter_drained now hne htaken⟩
  · obtain ⟨htail, hdec, hhid⟩ := taskIter_not_ready now s
    have hb := taskIter_not_ready_boundaries now s
    refine ⟨_, exec_taskIter now false s hs, htail, hdec, hhid, ?_, fun hi => ?_⟩
    · rw [hb.preempts, List.drop_one]
    · rw [hb.taken hi, sum_take_one]

end Sys2Proof.Machine
end

section
/-! One step of the machine and the operation it starts (R10, R231, R280, R285). -/

namespace Sys2Proof.Machine

/-- What the decoder reads starts where the agent may run it, and the producer only while `irq_en` is 1 (R280, R285). -/
theorem startOperation_run {agent : Agent} {e : Encoded} {s : State} {i : Instr} (hd : decode s.context e = .ok i)
    (ha : i.agent = agent) (hi : agent = .producer → s.irqEn = true) : startOperation agent e s = .run i s := by
  simp only [startOperation, hd, ha]
  cases agent with
  | consumer => simp
  | producer => simp [hi rfl]

/-- The step takes the next event off the agenda and runs what it starts. -/
theorem step_of_runEvent {s t : State} {e : Event} {rest : List Event} {i : Instr} (h : s.env.agenda = e :: rest)
    (hr : runEvent e (s.setAgenda rest) = .run i t) : step s = exec i t := by
  simp [step, fetch, h, hr]

/-- Settles O9: each of the three events comes to `startOperation` in the agent's own context. -/
theorem stepRunsDecodedOperation : Obligations.StepRunsDecodedOperation := by
  refine ⟨?_, ?_, ?_⟩
  · intro s b rest i h hd
    refine step_of_runEvent h ?_
    exact startOperation_run (s := s.setAgenda rest) hd (Laws.scan_agent hd) (fun hp => nomatch hp)
  · intro s f words rest i h hi hr hd
    refine step_of_runEvent h ?_
    have hstart : startOperation .producer (.frame f.raw f.answer) ((s.setAgenda rest).setRcv words) =
        .run i ((s.setAgenda rest).setRcv words) :=
      startOperation_run hd (Laws.frame_agent hd) (fun _ => hi)
    simp [runEvent, takeInterrupt, hi, hr, hstart]
  · intro s agent c rest i h hd ha hi
    exact step_of_runEvent h (startOperation_run (s := s.setAgenda rest) hd ha hi)

end Sys2Proof.Machine
end

section
/-! What an operation that completes, and a step, can do, said once: the inversion lemmas of `exec` and `step` (R105, R108,
R124 to R126, R140, R236, R300). -/

namespace Sys2Proof.Machine

/-! ## The operations of the producer -/

/-- What an operation of the producer does to the state, its result apart (R105, R108, R122, R124). -/
inductive ProducerRun (s : State) : State → Prop where
  /-- `RB.IS_FULL` -/
  | queried : ProducerRun s s
  /-- `RB.PUT` -/
  | put (b : Byte) : ProducerRun s (ringPut b s).1
  /-- a word that does not validate -/
  | rejected (k : FrameKind) (w : FrameWord) : ProducerRun s (raise (.frameError k w) s)
  /-- a validated byte, of which the session wants nothing -/
  | heard (b : Byte) : ProducerRun s (s.ask (.onByte b))
  /-- a validated byte, on which the session sends a command -/
  | sent (b c : Byte) : ProducerRun s ((s.ask (.onByte b)).emitTx (txWord c))
  /-- a validated byte, put for decoding -/
  | enqueued (b : Byte) : ProducerRun s (ringPut b (s.ask (.onByte b))).1

theorem routeAt_run (b : Byte) (a : Action) (s : State) : ProducerRun s (routeAt b a s) := by
  cases a with
  | sendCommand c => exact .sent b c
  | enqueueForDecoding => exact .enqueued b
  | none => exact .heard b

theorem routeXt_run (b : Byte) (a : Action) (s : State) : ProducerRun s (routeXt b a s) := by
  cases a with
  | sendCommand c => exact .heard b
  | enqueueForDecoding => exact .enqueued b
  | none => exact .heard b

theorem rxAtBody_run (w : AtFrame) (a : Action) (s : State) : ProducerRun s (rxAtBody w a s) := by
  unfold rxAtBody
  split
  · exact routeAt_run _ a s
  · exact .rejected _ _

theorem rxXtBody_run (w : XtFrame) (a : Action) (s : State) : ProducerRun s (rxXtBody w a s) := by
  unfold rxXtBody
  split
  · exact routeXt_run _ a s
  · exact .rejected _ _

theorem receive_run (f : Frame) (s : State) : ProducerRun s (receive f s) := by
  unfold receive
  split
  · exact rxAtBody_run _ _ s
  · exact rxXtBody_run _ _ s

theorem ended_next {s t : State} (h : ended s = .next t) : t = s.answer .none :=
  (Host.Outcome.next.inj h).symm

theorem frameClass_ended {p : Proto} {c : Bool} {s u t : State} (h : frameClass p c s (ended u) = .next t) :
    t = u.answer .none :=
  have ⟨_, _, _, hk⟩ := (frameClass_next_iff p c s t _).mp h
  ended_next hk

theorem underProto_ended {p : Proto} {s u t : State} (h : underProto p s (ended u) = .next t) : t = u.answer .none :=
  have ⟨_, _, hk⟩ := (underProto_next_iff p s t _).mp h
  ended_next hk

theorem afterSetup_answer {s u t : State} {r : CallResult} (h : afterSetup s (.next (u.answer r)) = .next t) :
    t = u.answer r :=
  have ⟨_, hk⟩ := (afterSetup_next_iff s t _).mp h
  (Host.Outcome.next.inj hk).symm

/-- An operation of the producer that completes does what `ProducerRun` says, and returns its result. -/
theorem exec_producer {i : Instr} {s t : State} (ha : i.agent = .producer) (h : exec i s = .next t) :
    ∃ u r, ProducerRun s u ∧ t = u.answer r := by
  cases i with
  | rxAtBadStart w => exact ⟨_, _, .rejected .badStart (.at11 w), frameClass_ended h⟩
  | rxAtBadStop w => exact ⟨_, _, .rejected .badStop (.at11 w), frameClass_ended h⟩
  | rxAtBadParity w => exact ⟨_, _, .rejected .badParity (.at11 w), frameClass_ended h⟩
  | rxAtOk w a => exact ⟨_, _, routeAt_run (atData w) a s, frameClass_ended h⟩
  | rxXtBadStart w => exact ⟨_, _, .rejected .badStart (.xt9 w), frameClass_ended h⟩
  | rxXtOk w a => exact ⟨_, _, routeXt_run (xtData w) a s, frameClass_ended h⟩
  | rxAt w a => exact ⟨_, _, rxAtBody_run w a s, underProto_ended h⟩
  | rxXt w a => exact ⟨_, _, rxXtBody_run w a s, underProto_ended h⟩
  | rbIsFull => exact ⟨_, _, .queried, afterSetup_answer h⟩
  | rbPut b => exact ⟨_, _, .put b, afterSetup_answer h⟩
  | _ => cases ha

/-! ## The operations of the consumer -/

/-- What an operation of the consumer does to the state, its result apart (R121, R125, R126, R140, R236, R300). -/
inductive ConsumerRun (s : State) : Instr → State → Prop where
  | setup (p : Proto) (c : CodeSet) : ConsumerRun s (.setup p c)
      (((clearIndices ((s.setIrqEn false).setProto p)).setDec (DecState.initOf c)).setIrqEn true).markSetup
  | queried : ConsumerRun s .rbIsEmpty s
  | got : ConsumerRun s .rbGet (ringGet s).1
  | cleared : ConsumerRun s .rbReset (clearIndices s)
  | iterated (now : Nat) (ready : Bool) : ConsumerRun s (.taskIter now ready) (taskIterBody now ready s)
  /-- `DEC.FEED` and the byte classes: a transition of the code set's decoder is applied -/
  | fed {i : Instr} (tr : Transition) (b : Byte) (lawful : tr.Lawful s.dec.codeSet) : ConsumerRun s i (applyTransition tr b s)

theorem byteClass_run {st : DecState} {c : Bool} {tr : Transition} {b : Byte} {i : Instr} {s t : State}
    (h : byteClass st c tr b s = .next t) (lawful : tr.Lawful st.codeSet) :
    ∃ u r, ConsumerRun s i u ∧ t = u.answer r := by
  obtain ⟨_, rfl, _, ht⟩ := (byteClass_next_iff st c tr b s t).mp h
  exact ⟨_, _, .fed tr b lawful, ht⟩

/-- An operation of the consumer that completes does what `ConsumerRun` says, and returns its result. -/
theorem exec_consumer {i : Instr} {s t : State} (ha : i.agent = .consumer) (h : exec i s = .next t) :
    ∃ u r, ConsumerRun s i u ∧ t = u.answer r := by
  cases i with
  | setup p c => exact ⟨_, _, .setup p c, (Host.Outcome.next.inj h).symm⟩
  | rbIsEmpty => exact ⟨_, _, .queried, afterSetup_answer h⟩
  | rbGet => exact ⟨_, _, .got, afterSetup_answer h⟩
  | rbReset =>
    obtain ⟨_, hk⟩ := (afterSetup_next_iff s t _).mp h
    split at hk
    · exact ⟨_, _, .cleared, ended_next hk⟩
    · cases hk
  | decFeed b => exact ⟨_, _, .fed _ b (stepDecoder_lawful s.tables s.dec b), afterSetup_answer h⟩
  | taskIter now ready => exact ⟨_, _, .iterated now ready, afterSetup_answer h⟩
  | rxAtBadStart | rxAtBadStop | rxAtBadParity | rxAtOk | rxXtBadStart | rxXtOk | rxAt | rxXt | rbIsFull | rbPut => cases ha
  | _ => exact byteClass_run h (by first | exact toState_lawful _ | exact complete_lawful _ _ | exact unexpected_lawful _)

/-! ## A step -/

/-- What fetching the next event can come to: no operation, with the inputs and `irq_en` changed at most; an operation, with
the inputs changed at most; or a stop (R26, R33, R231). -/
inductive FetchedFrom (s : State) : Fetched → Prop where
  | idle (env : Inputs) (irqEn : Bool) : FetchedFrom s (.idle { s with env := env, irqEn := irqEn })
  | run (i : Instr) (env : Inputs) : FetchedFrom s (.run i { s with env := env })
  | stop (r : Refusal) : FetchedFrom s (.stop r)

theorem startOperation_fetched (agent : Agent) (e : Encoded) (env : Inputs) (s : State) :
    FetchedFrom s (startOperation agent e { s with env := env }) := by
  unfold startOperation
  split
  · exact .stop _
  · split
    · exact .stop _
    · split
      · exact .stop _
      · exact .run _ _

theorem runEvent_fetched (e : Event) (env : Inputs) (s : State) : FetchedFrom s (runEvent e { s with env := env }) := by
  cases e with
  | started agent c => exact startOperation_fetched agent (.call c) env s
  | scan b => exact startOperation_fetched .consumer (.scan b) env s
  | interrupt =>
    simp only [runEvent, takeInterrupt]
    split
    · exact startOperation_fetched .producer _ _ s
    · exact .idle _ _
  | deliver f => exact .idle _ _
  | setIrq on => exact .idle _ _

theorem fetch_fetched (s : State) : FetchedFrom s (fetch s) := by
  unfold fetch
  split
  · exact .idle _ _
  · exact runEvent_fetched _ _ s

/-- A step that completes starts no operation and changes the inputs and `irq_en` at most, or it is one operation, before
which the inputs alone change. -/
theorem step_cases {s t : State} (h : step s = .next t) :
    (∃ env irqEn, t = { s with env := env, irqEn := irqEn }) ∨ ∃ i env, exec i { s with env := env } = .next t := by
  have hf := fetch_fetched s
  unfold step at h
  split at h
  · next u hu =>
    rw [hu] at hf
    cases hf with
    | idle env irqEn => exact .inl ⟨env, irqEn, (Host.Outcome.next.inj h).symm⟩
  · next i u hu =>
    rw [hu] at hf
    cases hf with
    | run _ env => exact .inr ⟨i, env, h⟩
  · cases h

end Sys2Proof.Machine
end

section
/-! The bytes held in the ring and its flags (R27, R28, R124), and the state after reset (R20, R301). -/

namespace Sys2Proof.Machine

/-- A put writes no slot but the one at `rb.head` (R22, R124). -/
theorem ringAdd_read_other (r : Ring) (b : Byte) {a : Nat} (ha : a ≠ r.head.toNat) :
    Memory.read (ringAdd r b).buf a = Memory.read r.buf a := by
  unfold ringAdd
  split
  · rfl
  · exact memory_read_write_other _ b ha

/-- A put leaves the ring as it is, or advances `rb.head` by one (R124). -/
theorem ringAdd_head (r : Ring) (b : Byte) : ringAdd r b = r ∨ (ringAdd r b).head = r.head + 1#5 := by
  unfold ringAdd
  split
  · exact .inl rfl
  · exact .inr rfl

/-- Settles O24: the ring after is `ringAdd` of the ring before. -/
theorem putAppendsToHeldBytes : Obligations.PutAppendsToHeldBytes := by
  intro s t b h
  have hring : t.rb = ringAdd s.rb b := by
    rw [afterSetup_answer h, answer_rb, ringPut_rb]
  simp only [held_eq, hring, rbFull, beq_eq_false_iff_ne, beq_iff_eq]
  exact ⟨ringHeld_ringAdd_room s.rb b, fun hfull => by rw [ringAdd_full s.rb b hfull],
    fun _ ha => ringAdd_read_other s.rb b ha⟩

theorem rbEmpty_iff (s : State) : rbEmpty s = true ↔ s.rb.head = s.rb.tail := beq_iff_eq

theorem rbFull_iff (s : State) : rbFull s = true ↔ (s.rb.head.toNat + 1) % 32 = s.rb.tail.toNat := by
  simp [rbFull, nextIndex, ← BitVec.toNat_inj]

theorem not_empty_and_full (s : State) : ¬(rbEmpty s = true ∧ rbFull s = true) := by
  rw [rbEmpty_iff, rbFull_iff]
  rintro ⟨hempty, hfull⟩
  rw [hempty] at hfull
  omega

/-- Settles O19. -/
theorem emptyAndFullNeverTogether : Obligations.EmptyAndFullNeverTogether := by
  refine ⟨fun s => ⟨rbEmpty_iff s, rbFull_iff s, not_empty_and_full s⟩, fun s hs => ?_, fun s p c => ?_⟩
  · simp [exec, execRbIsEmpty, execRbIsFull, afterSetup, hs]
  · exact ⟨_, rfl, rfl, rfl⟩

/-- Settles O44: each field of the state after reset, and no slot listed. -/
theorem resetStateValues : Obligations.ResetStateValues :=
  ⟨rfl, rfl, rfl, rfl, fun _ => rfl, by decide, rfl, rfl, rfl⟩

/-- Whatever tables are supplied, those of the machine meet R158 and R208. -/
theorem config_tables_wf : Config.tables.wf = true := by
  unfold Config.tables
  split
  · assumption
  · decide

end Sys2Proof.Machine
end

section
/-! Every step is made of micro-steps that each write one part of the state (R10, R12); an invariant is then shown for one
micro-step. -/

namespace Sys2Proof.Machine

/-- One write of an operation of either agent: to the ring, to a stream, or to what is neither (R10, R12, R30). -/
inductive MicroStep (s : State) : State → Prop where
  | put (b : Byte) (room : rbFull s = false) : MicroStep s ((s.putSlot s.rb.head b).setHead (nextIndex s.rb.head))
  | release (nonempty : s.rb.head ≠ s.rb.tail) : MicroStep s (releaseSlot s)
  | clear : MicroStep s (clearIndices s)
  | tx (w : TxFrame) : MicroStep s (s.emitTx w)
  | rcvctl (r : RcvToken) : MicroStep s (s.emitRcvctl r)
  | sesctl (r : SesToken) : MicroStep s (s.emitSesctl r)
  | hid (e : KeyEvent) : MicroStep s (s.emitHid e)
  | diag (d : Diag) : MicroStep s (s.emitDiag d)
  | call (a : Ask) : MicroStep s (s.ask a)
  /-- the protocol, the decoder state, `irq_en`, the inputs and the model's own fields -/
  | other {t : State} (rb : t.rb = s.rb) (out : t.out = s.out) (tables : t.tables = s.tables) : MicroStep s t

/-- Micro-steps, one after the other. -/
abbrev MicroSteps : State → State → Prop := Relation.ReflTransGen MicroStep

theorem ringPut_microSteps (b : Byte) (s : State) : MicroSteps s (ringPut b s).1 := by
  cases h : rbFull s with
  | false => rw [ringPut_room b s h]; exact .single (.put b h)
  | true => rw [ringPut_full b s h]; exact .single (.diag _)

theorem raise_frameError_microSteps (k : FrameKind) (w : FrameWord) (s : State) :
    MicroSteps s (raise (.frameError k w) s) := by
  cases k with
  | badStart => exact ((Relation.ReflTransGen.single (.diag _)).tail (.sesctl .reset)).tail (.rcvctl .restart)
  | badStop => exact ((Relation.ReflTransGen.single (.diag _)).tail (.sesctl .reset)).tail (.rcvctl .restart)
  | badParity => exact (Relation.ReflTransGen.single (.diag _)).tail (.tx _)

theorem ProducerRun.microSteps {s u : State} (h : ProducerRun s u) : MicroSteps s u := by
  cases h with
  | queried => exact .refl
  | put b => exact ringPut_microSteps b s
  | rejected k w => exact raise_frameError_microSteps k w s
  | heard b => exact .single (.call _)
  | sent b c => exact (Relation.ReflTransGen.single (.call _)).tail (.tx _)
  | enqueued b => exact .head (.call _) (ringPut_microSteps b _)

theorem runProducer_microSteps (n : Nat) (s : State) : MicroSteps s (runProducer n s) := by
  induction n generalizing s with
  | zero => exact .refl
  | succ n ih =>
    unfold runProducer
    split
    · next f rest _ _ =>
      have htaken : MicroStep s (s.setRcv rest) := .other rfl rfl rfl
      exact .head htaken ((receive_run f _).microSteps.trans (ih _))
    · exact .refl

theorem preempt_microSteps (s : State) : MicroSteps s (preempt s) := by
  unfold preempt
  split
  · exact .refl
  · next n rest _ =>
    have hscheduled : MicroStep s (s.setPreempts rest) := .other rfl rfl rfl
    exact .head hscheduled (runProducer_microSteps n _)

theorem readSlot_microStep (s : State) : MicroStep s (readSlot s).2 :=
  .other (readSlot_rb s) (readSlot_out s) (readSlot_tables s)

/-- The boundaries, the slot read and the release of a get; the byte held before keeps the ring from being empty at the
release (R22, R125). -/
theorem release_microSteps {s : State} (he : s.rb.head ≠ s.rb.tail) :
    MicroSteps s (releaseSlot (preempt (readSlot (preempt s)).2)) := by
  have hread : (readSlot (preempt s)).2.rb.head ≠ (readSlot (preempt s)).2.rb.tail := by
    rw [readSlot_rb, preempt_rb_tail]
    exact (preempt_keeps_oldest he).1
  have hrelease : (preempt (readSlot (preempt s)).2).rb.head ≠ (preempt (readSlot (preempt s)).2).rb.tail := by
    rw [preempt_rb_tail]
    exact (preempt_keeps_oldest hread).1
  exact (((preempt_microSteps s).tail (readSlot_microStep _)).trans (preempt_microSteps _)).tail (.release hrelease)

theorem ringGet_microSteps (s : State) : MicroSteps s (ringGet s).1 := by
  by_cases he : s.rb.head = s.rb.tail
  · rw [ringGet_empty s he]
    exact .single (.other rfl rfl rfl)
  · have hget : (ringGet s).1 = releaseSlot (preempt (readSlot (preempt s)).2) := by simp [ringGet, rbEmpty, he]
    rw [hget]
    exact release_microSteps he

theorem applyTransition_microSteps {tr : Transition} {c : CodeSet} (lawful : tr.Lawful c) (b : Byte) (s : State) :
    MicroSteps s (applyTransition tr b s) := by
  rcases applyTransition_spec lawful b s with ⟨_, h⟩ | ⟨_, h⟩ <;> rw [h]
  · exact .single (.other rfl rfl rfl)
  · have hdiag : MicroStep s (s.emitDiag (.sequenceError s.dec b)) := .diag _
    exact (Relation.ReflTransGen.single hdiag).tail (.other rfl rfl rfl)

theorem deliverEvent_microSteps (e : Option KeyEvent) (s : State) : MicroSteps s (deliverEvent e s) := by
  cases e with
  | none => exact .refl
  | some ev => exact (preempt_microSteps s).tail (.hid ev)

theorem drain_microSteps (s : State) : MicroSteps s (drain s) := by
  by_cases he : s.rb.head = s.rb.tail
  · rw [drain_empty he]
  · have hfeed : MicroSteps s (beforeFeed s) :=
      (preempt_microSteps s).trans <| (release_microSteps (by rw [preempt_rb_tail]; exact (preempt_keeps_oldest he).1)).trans
        (preempt_microSteps _)
    rw [drain_nonempty he]
    exact (hfeed.trans (applyTransition_microSteps (stepDecoder_lawful _ _ _) _ _)).trans (deliverEvent_microSteps _ _)

theorem taskIterBody_microSteps (now : Nat) (ready : Bool) (s : State) : MicroSteps s (taskIterBody now ready s) := by
  have hasked : MicroSteps s (preempt (s.ask .hidReady)) := .head (.call _) (preempt_microSteps _)
  cases ready with
  | false => exact hasked.tail (.call _)
  | true => exact ((hasked.trans (drain_microSteps _)).trans (preempt_microSteps _)).tail (.call _)

theorem ConsumerRun.microSteps {i : Instr} {s u : State} (h : ConsumerRun s i u) : MicroSteps s u := by
  cases h with
  | setup p c =>
    have hmasked : MicroStep s ((s.setIrqEn false).setProto p) := .other rfl rfl rfl
    exact ((Relation.ReflTransGen.single hmasked).tail .clear).tail (.other rfl rfl rfl)
  | queried => exact .refl
  | got => exact ringGet_microSteps s
  | cleared => exact .single .clear
  | iterated now ready => exact taskIterBody_microSteps now ready s
  | fed tr b lawful => exact applyTransition_microSteps lawful b s

theorem exec_microSteps {i : Instr} {s t : State} (h : exec i s = .next t) : MicroSteps s t := by
  cases ha : i.agent with
  | producer =>
    obtain ⟨u, r, hrun, rfl⟩ := exec_producer ha h
    exact hrun.microSteps.tail (.other rfl rfl rfl)
  | consumer =>
    obtain ⟨u, r, hrun, rfl⟩ := exec_consumer ha h
    exact hrun.microSteps.tail (.other rfl rfl rfl)

theorem step_microSteps {s t : State} (h : step s = .next t) : MicroSteps s t := by
  rcases step_cases h with ⟨env, irqEn, rfl⟩ | ⟨i, env, hexec⟩
  · exact .single (.other rfl rfl rfl)
  · have hinputs : MicroStep s { s with env := env } := .other rfl rfl rfl
    exact .head hinputs (exec_microSteps hexec)

/-- What every micro-step keeps, every step keeps. -/
theorem step_keeps {P : State → Prop} (keeps : ∀ {u v : State}, MicroStep u v → P u → P v) {s t : State}
    (h : step s = .next t) (hs : P s) : P t := by
  have hsteps := step_microSteps h
  clear h
  induction hsteps with
  | refl => exact hs
  | tail _ hstep ih => exact keeps hstep ih

end Sys2Proof.Machine
end

section
/-! The streams only grow (R30), and a good state stays good (R28, R51, R52). -/

namespace Sys2Proof.Machine

/-! ## The streams -/

/-- Each stream, and the record of calls, is the one before with something appended (R30). -/
structure Grown (o p : Outputs) : Prop where
  tx : o.tx <+: p.tx
  rcvctl : o.rcvctl <+: p.rcvctl
  sesctl : o.sesctl <+: p.sesctl
  hid : o.hid <+: p.hid
  diag : o.diag <+: p.diag
  asks : o.asks <+: p.asks

theorem Grown.refl (o : Outputs) : Grown o o := by constructor <;> exact ⟨[], List.append_nil _⟩

theorem Grown.trans {o p q : Outputs} (h : Grown o p) (k : Grown p q) : Grown o q where
  tx := h.tx.trans k.tx
  rcvctl := h.rcvctl.trans k.rcvctl
  sesctl := h.sesctl.trans k.sesctl
  hid := h.hid.trans k.hid
  diag := h.diag.trans k.diag
  asks := h.asks.trans k.asks

theorem MicroStep.grown {s t : State} (h : MicroStep s t) : Grown s.out t.out := by
  cases h with
  | put b room => exact .refl _
  | release nonempty => exact .refl _
  | clear => exact .refl _
  | tx w => exact { Grown.refl s.out with tx := ⟨_, rfl⟩ }
  | rcvctl r => exact { Grown.refl s.out with rcvctl := ⟨_, rfl⟩ }
  | sesctl r => exact { Grown.refl s.out with sesctl := ⟨_, rfl⟩ }
  | hid e => exact { Grown.refl s.out with hid := ⟨_, rfl⟩ }
  | diag d => exact { Grown.refl s.out with diag := ⟨_, rfl⟩ }
  | call a => exact { Grown.refl s.out with asks := ⟨_, rfl⟩ }
  | other rb out tables => rw [out]; exact .refl _

/-- Settles O48: no micro-step takes anything off a stream. -/
theorem streamsOnlyGrow : Obligations.StreamsOnlyGrow := by
  intro s t h
  have hgrown : Grown s.out t.out :=
    step_keeps (P := fun u => Grown s.out u.out) (fun hstep hu => hu.trans hstep.grown) h (.refl _)
  exact ⟨hgrown.tx, hgrown.rcvctl, hgrown.sesctl, hgrown.hid, hgrown.diag, hgrown.asks⟩

/-! ## Good states -/

/-- Every slot of the live range of a ring holds a byte; `liveWritten` of a state is that of its ring (R28). -/
def LiveWritten (r : Ring) : Prop :=
  ∀ i < (r.head - r.tail).toNat, (Memory.read r.buf (r.tail + BitVec.ofNat 5 i).toNat).isSome = true

theorem good_iff (s : State) :
    s.good = true ↔ Memory.wf s.rb.buf = true ∧ LiveWritten s.rb ∧ s.tables.wf = true := by
  simp [State.good, liveWritten, LiveWritten, rbCount, liveSlot, and_assoc]

theorem liveWritten_of_empty {r : Ring} (h : r.head = r.tail) : LiveWritten r := by
  intro i hi
  simp [h] at hi

/-- A put with room extends the live range by the slot it writes (R28, R124). -/
theorem liveWritten_put {r : Ring} (b : Byte) (room : nextIndex r.head ≠ r.tail) (h : LiveWritten r) :
    LiveWritten { buf := Memory.write r.buf r.head.toNat b, head := nextIndex r.head, tail := r.tail } := by
  intro i hi
  rw [count_next r.head r.tail room] at hi
  by_cases hnew : (r.tail + BitVec.ofNat 5 i).toNat = r.head.toNat
  · rw [hnew, memory_read_write_same]; rfl
  · rw [memory_read_write_other _ _ hnew]
    refine h i (Nat.lt_of_le_of_ne (Nat.le_of_lt_succ hi) fun hlast => hnew ?_)
    rw [hlast, index_add_sub]

/-- A release takes the oldest slot out of the live range (R28, R125). -/
theorem liveWritten_release {r : Ring} (nonempty : r.head ≠ r.tail) (h : LiveWritten r) :
    LiveWritten { r with tail := nextIndex r.tail } := by
  intro i hi
  have hcount : (r.head - r.tail).toNat = (r.head - nextIndex r.tail).toNat + 1 := by
    unfold nextIndex; bv_omega
  have hslot : nextIndex r.tail + BitVec.ofNat 5 i = r.tail + BitVec.ofNat 5 (i + 1) := by
    rw [nextIndex, BitVec.add_assoc, BitVec.ofNat_add, BitVec.add_comm 1#5]
  change (Memory.read r.buf (nextIndex r.tail + BitVec.ofNat 5 i).toNat).isSome = true
  rw [hslot]
  exact h (i + 1) (by rw [hcount]; exact Nat.succ_lt_succ hi)

theorem MicroStep.good {s t : State} (h : MicroStep s t) (hs : s.good = true) : t.good = true := by
  rw [good_iff] at hs ⊢
  obtain ⟨hwf, hlive, htables⟩ := hs
  cases h with
  | put b room =>
    exact ⟨putSlot_wf s _ b hwf, liveWritten_put b (by simpa [rbFull] using room) hlive, htables⟩
  | release nonempty => exact ⟨hwf, liveWritten_release nonempty hlive, htables⟩
  | clear => exact ⟨hwf, liveWritten_of_empty rfl, htables⟩
  | other rb out tables => rw [rb, tables]; exact ⟨hwf, hlive, htables⟩
  | tx | rcvctl | sesctl | hid | diag | call => exact ⟨hwf, hlive, htables⟩

/-- Settles O46: every micro-step keeps a good state good. -/
theorem stepKeepsGoodState : Obligations.StepKeepsGoodState :=
  fun _ _ hs h => step_keeps (P := fun u => u.good = true) MicroStep.good h hs

/-- Settles O45. -/
theorem resetStateIsGood : Obligations.ResetStateIsGood :=
  (good_iff _).mpr ⟨reset_memory_wf, liveWritten_of_empty rfl, config_tables_wf⟩

end Sys2Proof.Machine
end

section
/-! Each agent keeps to its own part of the state (R22, R234, R285). -/

namespace Sys2Proof.Machine

/-! ## The producer -/

theorem ask_producerFrame (a : Ask) (s : State) : ProducerFrame s (s.ask a) := by constructor <;> rfl

theorem ProducerRun.frame {s u : State} (h : ProducerRun s u) : ProducerFrame s u := by
  cases h with
  | queried => exact .refl s
  | put b => exact ringPut_frame b s
  | rejected k w => exact raise_frameError_frame k w s
  | heard b => exact ask_producerFrame _ s
  | sent b c => constructor <;> rfl
  | enqueued b => exact (ask_producerFrame _ s).trans (ringPut_frame b _)

theorem ProducerRun.env {s u : State} (h : ProducerRun s u) : u.env = s.env := by
  cases h with
  | queried | heard | sent => rfl
  | put b | enqueued b => exact ringPut_env b _
  | rejected k w => exact raise_frameError_env k w s

/-- An operation of the producer puts one byte, or leaves the ring alone (R22). -/
theorem ProducerRun.rb {s u : State} (h : ProducerRun s u) : u.rb = s.rb ∨ ∃ b, u.rb = ringAdd s.rb b := by
  cases h with
  | queried | heard | sent => exact .inl rfl
  | put b | enqueued b => exact .inr ⟨b, ringPut_rb b _⟩
  | rejected k w => exact .inl (raise_frameError_rb k w s)

theorem ringPut_out_asks (b : Byte) (s : State) : (ringPut b s).1.out.asks = s.out.asks := by
  cases h : rbFull s with
  | false => rw [ringPut_room b s h]; rfl
  | true => rw [ringPut_full b s h]; rfl

/-- The only call an operation of the producer makes is `SES.on_byte`, once (R105, R108). -/
theorem ProducerRun.asks {s u : State} (h : ProducerRun s u) :
    u.out.asks = s.out.asks ∨ ∃ b, u.out.asks = s.out.asks ++ [.onByte b] := by
  cases h with
  | queried => exact .inl rfl
  | put b => exact .inl (ringPut_out_asks b s)
  | rejected k w => cases k <;> exact .inl rfl
  | heard b | sent b => exact .inr ⟨b, rfl⟩
  | enqueued b => exact .inr ⟨b, ringPut_out_asks b _⟩

/-- Settles O50: what `ProducerRun` leaves unchanged, and what `ringAdd` does to the ring. -/
theorem producerKeepsToItsContext : Obligations.ProducerKeepsToItsContext := by
  intro i s t ha h
  obtain ⟨u, r, hrun, rfl⟩ := exec_producer ha h
  have f := hrun.frame
  refine ⟨f.tail, f.dec, f.hid, f.irqEn, hrun.env, f.proto, f.framing, f.tables, f.setupDone, f.freeCount, hrun.asks, ?_⟩
  rw [answer_rb]
  rcases hrun.rb with hrb | ⟨b, hrb⟩ <;> rw [hrb]
  · exact ⟨fun _ _ => rfl, .inl ⟨rfl, rfl⟩⟩
  · exact ⟨fun a hne => ringAdd_read_other s.rb b hne, (ringAdd_head s.rb b).imp_left fun hsame => by simp [hsame]⟩

/-! ## The consumer, with no word scheduled -/

@[simp] theorem readSlot_env (s : State) : (readSlot s).2.env = s.env := by
  rcases readSlot_state s with h | h <;> rw [h]; rfl

/-- A get with no word scheduled moves `rb.tail` and uses a free byte, at most (R125). -/
theorem ringGet_undisturbed {s : State} (hp : s.env.preempts = []) :
    ∃ tail free, (ringGet s).1 = { s with rb := { s.rb with tail := tail }, freeCount := free } := by
  by_cases he : s.rb.head = s.rb.tail
  · exact ⟨_, _, congrArg Prod.fst (ringGet_empty s he)⟩
  · have hget : (ringGet s).1 = releaseSlot (readSlot s).2 := by
      simp [ringGet, rbEmpty, he, preempt_undisturbed, hp]
    rw [hget]
    rcases readSlot_state s with h | h <;> rw [h] <;> exact ⟨_, _, rfl⟩

/-- Draining with no word scheduled changes `rb.tail`, the decoder state, `hid` and `diag`, and uses a free byte, at most
(R236). -/
theorem drain_undisturbed {s : State} (hp : s.env.preempts = []) :
    ∃ tail dec hid diag free, drain s = { s with
      rb := { s.rb with tail := tail }, dec := dec, out := { s.out with hid := hid, diag := diag }, freeCount := free } := by
  by_cases he : s.rb.head = s.rb.tail
  · exact ⟨_, _, _, _, _, drain_empty he⟩
  · have hbefore : beforeFeed s = releaseSlot (readSlot s).2 := by
      simp [beforeFeed, preempt_undisturbed, hp, releaseSlot]
    rw [drain_nonempty he, hbefore, feed_eq]
    cases (stepDecoder s.tables s.dec (takenByte s)).event with
    | none => rcases readSlot_state s with h | h <;> rw [h] <;> exact ⟨_, _, _, _, _, rfl⟩
    | some ev =>
      rw [deliverEvent, preempt_undisturbed _ (by simp [releaseSlot, hp])]
      rcases readSlot_state s with h | h <;> rw [h] <;> exact ⟨_, _, _, _, _, rfl⟩

/-- An iteration with no word scheduled changes no more than draining does, and calls `HID.ready` and `SES.on_tick`
(R235, R236). -/
theorem taskIterBody_undisturbed (now : Nat) (ready : Bool) {s : State} (hp : s.env.preempts = []) :
    ∃ tail dec hid diag free, taskIterBody now ready s = { s with
      rb := { s.rb with tail := tail }
      dec := dec
      out := { s.out with hid := hid, diag := diag, asks := s.out.asks ++ [.hidReady] ++ [.onTick now] }
      freeCount := free } := by
  have hasked : preempt (s.ask .hidReady) = s.ask .hidReady := preempt_undisturbed _ hp
  cases ready with
  | false =>
    rw [taskIterBody_not_ready, hasked]
    exact ⟨_, _, _, _, _, rfl⟩
  | true =>
    obtain ⟨tail, dec, hid, diag, free, hdrain⟩ := drain_undisturbed (s := s.ask .hidReady) hp
    rw [taskIterBody_ready, hasked, preempt_undisturbed (drain _) (by rw [hdrain]; exact hp), hdrain]
    exact ⟨_, _, _, _, _, rfl⟩

/-- A transition of a decoder changes the decoder state and `diag` at most (R140). -/
theorem applyTransition_frame {tr : Transition} {c : CodeSet} (lawful : tr.Lawful c) (b : Byte) (s : State) :
    ∃ dec diag, applyTransition tr b s = { s with dec := dec, out := { s.out with diag := diag } } := by
  rcases applyTransition_spec lawful b s with ⟨_, h⟩ | ⟨_, h⟩ <;> rw [h] <;> exact ⟨_, _, rfl⟩

/-- Settles O51: the state after each operation of the consumer, written out. -/
theorem consumerKeepsToItsContext : Obligations.ConsumerKeepsToItsContext := by
  intro i s t ha hp h
  obtain ⟨u, r, hrun, rfl⟩ := exec_consumer ha h
  cases hrun with
  | setup p c =>
    exact ⟨fun _ => rfl, rfl, rfl, rfl, rfl, rfl, rfl, fun _ hb => hb,
      fun hne => absurd rfl (hne p c), fun hne => absurd rfl (hne p c), fun _ => ⟨rfl, rfl⟩⟩
  | queried =>
    exact ⟨fun _ => rfl, rfl, rfl, rfl, rfl, rfl, rfl, fun _ hb => hb,
      fun _ => ⟨rfl, rfl, fun _ => rfl⟩, fun _ _ _ _ => rfl, fun _ => ⟨rfl, rfl⟩⟩
  | got =>
    obtain ⟨tail, free, hget⟩ := ringGet_undisturbed hp
    rw [hget]
    exact ⟨fun _ => rfl, rfl, rfl, rfl, rfl, rfl, rfl, fun _ hb => hb,
      fun _ => ⟨rfl, rfl, fun _ => rfl⟩, fun _ _ hne => absurd rfl hne, fun _ => ⟨rfl, rfl⟩⟩
  | cleared =>
    exact ⟨fun _ => rfl, rfl, rfl, rfl, rfl, rfl, rfl, fun _ hb => hb,
      fun _ => ⟨rfl, rfl, fun hne => absurd rfl hne⟩, fun _ hne => absurd rfl hne, fun _ => ⟨rfl, rfl⟩⟩
  | iterated now ready =>
    obtain ⟨tail, dec, hid, diag, free, hiter⟩ := taskIterBody_undisturbed now ready hp
    rw [hiter]
    exact ⟨fun _ => rfl, rfl, rfl, rfl, rfl, rfl, rfl, by simp,
      fun _ => ⟨rfl, rfl, fun _ => rfl⟩, fun _ _ _ hne => absurd rfl (hne now ready), fun hne => absurd rfl (hne now ready)⟩
  | fed tr b lawful =>
    obtain ⟨dec, diag, hfed⟩ := applyTransition_frame lawful b s
    rw [hfed]
    exact ⟨fun _ => rfl, rfl, rfl, rfl, rfl, rfl, rfl, fun _ hb => hb,
      fun _ => ⟨rfl, rfl, fun _ => rfl⟩, fun _ _ _ _ => rfl, fun _ => ⟨rfl, rfl⟩⟩

end Sys2Proof.Machine
end

section
/-! The configuration (R8): the framing parameters and tables never change, and `PROTO` and `CODESET` only by a
started `SETUP` (R61). -/

namespace Sys2Proof.Machine

/-- Two states of one configuration: framing parameters, tables, `PROTO` and `CODESET` (R6 to R8, R33). -/
structure SameConfiguration (s t : State) : Prop where
  framing : t.framing = s.framing
  tables : t.tables = s.tables
  proto : t.proto = s.proto
  codeSet : t.codeSet = s.codeSet

theorem SameConfiguration.refl (s : State) : SameConfiguration s s := ⟨rfl, rfl, rfl, rfl⟩

theorem SameConfiguration.trans {s t u : State} (h : SameConfiguration s t) (k : SameConfiguration t u) :
    SameConfiguration s u :=
  ⟨k.framing.trans h.framing, k.tables.trans h.tables, k.proto.trans h.proto, k.codeSet.trans h.codeSet⟩

/-! ## The micro-steps of the consumer and its boundaries -/

theorem ask_sameConfiguration (a : Ask) (s : State) : SameConfiguration s (s.ask a) := ⟨rfl, rfl, rfl, rfl⟩

theorem answer_sameConfiguration (r : CallResult) (s : State) : SameConfiguration s (s.answer r) := ⟨rfl, rfl, rfl, rfl⟩

theorem releaseSlot_sameConfiguration (s : State) : SameConfiguration s (releaseSlot s) := ⟨rfl, rfl, rfl, rfl⟩

theorem preempt_sameConfiguration (s : State) : SameConfiguration s (preempt s) :=
  ⟨preempt_framing s, preempt_tables s, preempt_proto s, congrArg DecState.codeSet (preempt_dec s)⟩

theorem readSlot_sameConfiguration (s : State) : SameConfiguration s (readSlot s).2 := by
  rcases readSlot_state s with h | h <;> rw [h]
  · exact .refl s
  · exact ⟨rfl, rfl, rfl, rfl⟩

/-- The boundaries, the slot read and the release of a get (R125). -/
theorem release_sameConfiguration (s : State) :
    SameConfiguration s (releaseSlot (preempt (readSlot (preempt s)).2)) :=
  (preempt_sameConfiguration s).trans <| (readSlot_sameConfiguration _).trans <|
    (preempt_sameConfiguration _).trans <| releaseSlot_sameConfiguration _

theorem ringGet_sameConfiguration (s : State) : SameConfiguration s (ringGet s).1 := by
  by_cases he : s.rb.head = s.rb.tail
  · rw [ringGet_empty s he]
    exact ⟨rfl, rfl, rfl, rfl⟩
  · have hget : (ringGet s).1 = releaseSlot (preempt (readSlot (preempt s)).2) := by simp [ringGet, rbEmpty, he]
    rw [hget]
    exact release_sameConfiguration s

/-- A lawful transition leads to a state of the same decoder, so `CODESET` stays (R25, R146). -/
theorem applyTransition_sameConfiguration {tr : Transition} {s : State} (lawful : tr.Lawful s.dec.codeSet) (b : Byte) :
    SameConfiguration s (applyTransition tr b s) := by
  rcases applyTransition_spec lawful b s with ⟨_, h⟩ | ⟨_, h⟩ <;> rw [h]
  · exact ⟨rfl, rfl, rfl, lawful.codeSet⟩
  · exact ⟨rfl, rfl, rfl, initOf_codeSet _⟩

theorem deliverEvent_sameConfiguration (e : Option KeyEvent) (s : State) : SameConfiguration s (deliverEvent e s) := by
  cases e with
  | none => exact .refl s
  | some ev => exact (preempt_sameConfiguration s).trans ⟨rfl, rfl, rfl, rfl⟩

theorem drain_sameConfiguration (s : State) : SameConfiguration s (drain s) := by
  by_cases he : s.rb.head = s.rb.tail
  · rw [drain_empty he]
    exact .refl s
  · have hbefore : SameConfiguration s (beforeFeed s) :=
      (preempt_sameConfiguration s).trans <| (release_sameConfiguration _).trans <| preempt_sameConfiguration _
    rw [drain_nonempty he]
    exact (hbefore.trans (applyTransition_sameConfiguration (stepDecoder_lawful _ _ _) _)).trans
      (deliverEvent_sameConfiguration _ _)

theorem taskIterBody_sameConfiguration (now : Nat) (ready : Bool) (s : State) :
    SameConfiguration s (taskIterBody now ready s) := by
  have hasked : SameConfiguration s (preempt (s.ask .hidReady)) :=
    (ask_sameConfiguration _ s).trans (preempt_sameConfiguration _)
  cases ready with
  | false => exact hasked.trans (ask_sameConfiguration _ _)
  | true =>
    exact hasked.trans <| (drain_sameConfiguration _).trans <| (preempt_sameConfiguration _).trans <|
      ask_sameConfiguration _ _

/-! ## The operations -/

theorem ProducerRun.sameConfiguration {s u : State} (h : ProducerRun s u) : SameConfiguration s u :=
  have f := h.frame
  ⟨f.framing, f.tables, f.proto, congrArg DecState.codeSet f.dec⟩

theorem ConsumerRun.sameConfiguration {i : Instr} {s u : State} (h : ConsumerRun s i u) (hi : ∀ p c, i ≠ .setup p c) :
    SameConfiguration s u := by
  cases h with
  | setup p c => exact absurd rfl (hi p c)
  | queried => exact .refl s
  | got => exact ringGet_sameConfiguration s
  | cleared => exact ⟨rfl, rfl, rfl, rfl⟩
  | iterated now ready => exact taskIterBody_sameConfiguration now ready s
  | fed tr b lawful => exact applyTransition_sameConfiguration lawful b

/-- Every operation but `SETUP` keeps the configuration (R8, R61). -/
theorem exec_sameConfiguration {i : Instr} {s t : State} (h : exec i s = .next t) (hi : ∀ p c, i ≠ .setup p c) :
    SameConfiguration s t := by
  cases ha : i.agent with
  | producer =>
    obtain ⟨u, r, hrun, rfl⟩ := exec_producer ha h
    exact hrun.sameConfiguration.trans (answer_sameConfiguration r u)
  | consumer =>
    obtain ⟨u, r, hrun, rfl⟩ := exec_consumer ha h
    exact (hrun.sameConfiguration hi).trans (answer_sameConfiguration r u)

/-- `SETUP` writes neither the framing parameters nor the tables (R61, R300). -/
theorem exec_setup_framing_tables {p : Proto} {c : CodeSet} {s t : State} (h : exec (.setup p c) s = .next t) :
    t.framing = s.framing ∧ t.tables = s.tables := by
  cases Host.Outcome.next.inj h
  exact ⟨rfl, rfl⟩

/-! ## Which event starts `SETUP` -/

/-- The only call that is read as `SETUP` is `SETUP` (R85). -/
theorem decodeCall_setup {k : Call} {p : Proto} {c : CodeSet} (h : decodeCall k = .ok (.setup p c)) :
    ∃ p' c', k = .setup p' c' := by
  cases k with
  | setup p' c' => exact ⟨p', c', rfl⟩
  | rxAt | rxXt | rbIsEmpty | rbIsFull | rbPut | rbGet | rbReset | decFeed | taskIter => cases h

/-- No scan-code byte is read as `SETUP`: it falls in a byte class of its decoder state (R86). -/
theorem classifyScan_ne_setup (tb : Tables) (d : DecState) (b : Byte) (p : Proto) (c : CodeSet) :
    classifyScan tb d b ≠ .setup p c := by
  cases d with
  | set1 st => cases st <;> simp only [classifyScan, classifySet1] <;> (repeat' split) <;> nofun
  | set2 st => cases st <;> simp only [classifyScan, classifySet2] <;> (repeat' split) <;> nofun
  | set3 st => cases st <;> simp only [classifyScan, classifySet3] <;> (repeat' split) <;> nofun
  | amiga st => simp only [classifyScan, classifyAmiga]; split <;> nofun
  | m0110 st => cases st <;> simp only [classifyScan, classifyM0110] <;> (repeat' split) <;> nofun

/-- An operation that starts is the one the decoder reads, in its own context (R285); compare `startOperation_run`. -/
theorem decode_of_startOperation {agent : Agent} {e : Encoded} {s u : State} {i : Instr}
    (h : startOperation agent e s = .run i u) : decode s.context e = .ok i ∧ i.agent = agent := by
  unfold startOperation at h
  split at h
  · cases h
  · next j hd =>
    split at h
    · cases h
    · next ha =>
      split at h
      · cases h
      · cases h
        exact ⟨hd, not_not.mp ha⟩

/-- `SETUP` runs only where the consumer has started it: a byte is never read as `SETUP`, and the interrupt starts operations
of the producer (R285, R300). -/
theorem fetch_setup {s u : State} {p : Proto} {c : CodeSet} (h : fetch s = .run (.setup p c) u) :
    ∃ p' c' rest, s.env.agenda = .started .consumer (.setup p' c') :: rest := by
  unfold fetch at h
  split at h
  · cases h
  · next e rest hagenda =>
    cases e with
    | started agent k =>
      simp only [runEvent] at h
      obtain ⟨hd, rfl⟩ := decode_of_startOperation h
      obtain ⟨p', c', rfl⟩ := decodeCall_setup hd
      exact ⟨p', c', rest, hagenda⟩
    | scan b =>
      simp only [runEvent] at h
      obtain ⟨hd, _⟩ := decode_of_startOperation h
      exact absurd (Except.ok.inj hd) (classifyScan_ne_setup _ _ b p c)
    | interrupt =>
      simp only [runEvent, takeInterrupt] at h
      split at h
      · obtain ⟨_, ha⟩ := decode_of_startOperation h
        cases ha
      · cases h
    | deliver f => cases h
    | setIrq on => cases h

/-! ## A step -/

/-- As `step_cases`, with what the event came to: an operation that completes is the one fetched. -/
theorem step_fetched {s t : State} (h : step s = .next t) :
    fetch s = .idle t ∨ ∃ i u, fetch s = .run i u ∧ exec i u = .next t := by
  unfold step at h
  split at h
  · next u hu => exact .inl (hu.trans (congrArg Fetched.idle (Host.Outcome.next.inj h)))
  · next i u hu => exact .inr ⟨i, u, hu, h⟩
  · cases h

/-- Fetching keeps the configuration: it changes the inputs and `irq_en` at most. -/
theorem fetch_sameConfiguration {s u : State} (h : fetch s = .idle u ∨ ∃ i, fetch s = .run i u) :
    SameConfiguration s u := by
  have hf := fetch_fetched s
  rcases h with h | ⟨i, h⟩ <;> rw [h] at hf <;> cases hf <;> exact ⟨rfl, rfl, rfl, rfl⟩

/-- A step keeps the configuration, or it is a `SETUP` the consumer started, which keeps the framing parameters and the
tables (R8, R61). -/
theorem step_configuration {s t : State} (h : step s = .next t) :
    SameConfiguration s t ∨
      (∃ p c rest, s.env.agenda = .started .consumer (.setup p c) :: rest) ∧ t.framing = s.framing ∧ t.tables = s.tables := by
  rcases step_fetched h with hidle | ⟨i, u, hrun, hexec⟩
  · exact .inl (fetch_sameConfiguration (.inl hidle))
  · have hfetch : SameConfiguration s u := fetch_sameConfiguration (.inr ⟨i, hrun⟩)
    by_cases hsetup : ∃ p c, i = .setup p c
    · obtain ⟨p, c, rfl⟩ := hsetup
      obtain ⟨hframing, htables⟩ := exec_setup_framing_tables hexec
      exact .inr ⟨fetch_setup hrun, hframing.trans hfetch.framing, htables.trans hfetch.tables⟩
    · exact .inl (hfetch.trans (exec_sameConfiguration hexec fun p c hi => hsetup ⟨p, c, hi⟩))

/-- Settles O47: a step keeps the whole configuration, unless it is a started `SETUP`. -/
theorem stepKeepsConfiguration : Obligations.StepKeepsConfiguration := by
  intro s t h
  rcases step_configuration h with hsame | ⟨⟨p, c, rest, hagenda⟩, hframing, htables⟩
  · exact ⟨hsame.framing, hsame.tables, fun _ => ⟨hsame.proto, hsame.codeSet⟩⟩
  · exact ⟨hframing, htables, fun hnot => absurd hagenda (hnot p c rest)⟩

end Sys2Proof.Machine
end

section
/-! The encoder and the decoder (R70 to R78, R101): a field cut out of a word or a byte by the decoder is the one the class
conditions name, and a well-formed operation is read back from its encoding. -/

namespace Sys2Proof

/-! ## Fields -/

/-- The container gives back the frame that was put into it right-justified (R73). -/
theorem frame_of_container {n : Nat} (hn : n ≤ 16) (w : BitVec n) : (w.setWidth 16).extractLsb' 0 n = w := by
  rw [← BitVec.setWidth_eq_extractLsb' hn, BitVec.setWidth_setWidth_of_le _ hn, BitVec.setWidth_eq]

@[simp] theorem atOfRaw_setWidth (w : AtFrame) : atOfRaw (w.setWidth 16) = w := frame_of_container (by decide) w

@[simp] theorem xtOfRaw_setWidth (w : XtFrame) : xtOfRaw (w.setWidth 16) = w := frame_of_container (by decide) w

/-- A mask that keeps the low `n` bits leaves the frame in them as it is (R73). -/
theorem frame_of_masked {n : Nat} {mask : RawWord} (hmask : mask.extractLsb' 0 n = BitVec.allOnes n) (r : RawWord) :
    (r &&& mask).extractLsb' 0 n = r.extractLsb' 0 n := by
  rw [BitVec.extractLsb'_and, hmask, BitVec.and_allOnes]

theorem atOfRaw_masked (r : RawWord) : atOfRaw (r &&& 0x7FF#16) = atOfRaw r := frame_of_masked rfl r

theorem xtOfRaw_masked (r : RawWord) : xtOfRaw (r &&& 0x1FF#16) = xtOfRaw r := frame_of_masked rfl r

theorem atData_eq (w : AtFrame) : atData w = BitVec.truncate 8 (w >>> 1) := by
  ext k hk
  simp [atData]

theorem isLow_eq (b : Byte) : isLow b = decide (b < 0x80#8) := by
  have hmsb : isLow b = !b.msb := rfl
  rw [hmsb, BitVec.msb_eq_decide, ← decide_not]
  simp [BitVec.lt_def]

theorem bit0Set_eq (b : Byte) : bit0Set b = b.getLsbD 0 := rfl

theorem key7_eq (b : Byte) : key7 b = BitVec.truncate 7 b :=
  (BitVec.setWidth_eq_extractLsb' (by decide)).symm

theorem isSome_remap (r : Remap) (b : Byte) : (remap r b).isSome = r.hasFrom b := by
  unfold remap Remap.hasFrom
  split_ifs <;> simp_all

theorem isNone_remap (r : Remap) (b : Byte) : (remap r b).isNone = !r.hasFrom b := by
  rw [← isSome_remap, Option.not_isSome]

/-- A byte below 0x80 is none of the single bytes of Set 1, 2 and 3 that their tables test before it. -/
theorem ne_singleByte_of_isLow {b : Byte} (h : isLow b = true) :
    b ≠ 0xE0#8 ∧ b ≠ 0xE1#8 ∧ b ≠ 0xF0#8 ∧ b ≠ 0x83#8 ∧ b ≠ 0x84#8 := by
  refine ⟨?_, ?_, ?_, ?_, ?_⟩ <;> rintro rfl <;> cases h

/-! ## Parity -/

/-- Adding a bit to a number flips whether it is odd exactly when the bit is 1. -/
theorem odd_add_toNat (n : Nat) (x : Bool) : ((n + x.toNat) % 2 == 1) = ((n % 2 == 1) ^^ x) := by
  cases x with
  | false => simp
  | true => rcases Nat.mod_two_eq_zero_or_one n with h | h <;> simp [h, Nat.add_mod]

/-- A parity bit makes the count of 1 bits odd exactly when it is `par` of the byte (R101, R102). -/
theorem parityOdd_eq (b : Byte) (p : Bool) : parityOdd b p = (p == par b) := by
  have hfirst : ((b.getLsbD 0).toNat % 2 == 1) = b.getLsbD 0 := by cases b.getLsbD 0 <;> rfl
  simp only [parityOdd, popcount, par, odd_add_toNat, hfirst]
  cases p <;> simp

/-! ## Encodings of the configuration points -/

@[simp] theorem protoOfCode_protoCode (p : Proto) : protoOfCode (protoCode p) = p := by cases p <;> rfl

@[simp] theorem codeSetOfCode_codeSetCode (c : CodeSet) : codeSetOfCode (codeSetCode c) = some c := by cases c <;> rfl

/-! ## The round trip -/

/-- A well-formed frame class is what the decoder reads from its word under its protocol (R76, R77). -/
theorem decode_frame_of_wf {ctx : DecodeContext} {i : Instr} {raw : RawWord} {a : Action} (h : encode i = .frame raw a)
    (hwf : i.wf ctx.framing ctx.tables = true) (hsel : selects ctx i = true) : decode ctx (.frame raw a) = .ok i := by
  cases i <;> cases h <;> simp only [decode, beq_iff_eq.mp hsel, atOfRaw_setWidth, xtOfRaw_setWidth, Except.ok.injEq]
  case rxXtBadStart w => exact if_pos hwf
  case rxXtOk w => exact if_neg (by simpa [Instr.wf, xtStartBit] using hwf)
  all_goals
    simp only [Instr.wf, atBits, parityOdd_eq, Bool.and_eq_true, beq_iff_eq, bne_iff_ne] at hwf
    simp_all [classifyAt, atStartBit, atStopBit, atParityBit, atData_eq]

/-- A well-formed byte class is what the decoder reads from its byte in its decoder state (R86): its own condition holds,
and that of every row tested before it fails. -/
theorem classifyScan_of_wf {ctx : DecodeContext} {i : Instr} {b : Byte} (h : encode i = .scan b)
    (hwf : i.wf ctx.framing ctx.tables = true) (hsel : selects ctx i = true) :
    classifyScan ctx.tables ctx.dec b = i := by
  cases i <;> cases h <;> rw [beq_iff_eq.mp hsel]
  case m0InitOnP79 | m0InitOnP71 | m0P71On79 => rfl
  case amInitOnKey => exact if_pos (key7_eq b ▸ of_decide_eq_true hwf)
  case amInitOnReject => exact if_neg (key7_eq b ▸ BitVec.not_le.mpr (of_decide_eq_true hwf))
  all_goals
    simp only [Instr.wf, ← isLow_eq, ← isSome_remap, ← bit0Set_eq, Bool.and_eq_true, Bool.not_eq_true', bne_iff_ne,
      beq_iff_eq] at hwf
  case s1InitOnMake | s1E0OnMake | s2InitOnMake | s2F0OnBreak | s2E0OnKey | s2E0F0OnKey =>
    simp [classifyScan, classifySet1, classifySet2, hwf, ne_singleByte_of_isLow hwf]
  case s3InitOnMake | s3F0OnBreak => simp [classifyScan, classifySet3, hwf, ne_singleByte_of_isLow hwf.1]
  -- The other rows name the bytes of the rows before them in their own condition.
  all_goals simp [classifyScan, classifySet1, classifySet2, classifySet3, classifyM0110, hwf]

/-- A call is read back in every context (R85). -/
theorem decodeCall_of_encode {i : Instr} {c : Call} (h : encode i = .call c) : decodeCall c = .ok i := by
  cases i <;> cases h
  case setup p cs => simp [decodeCall]
  all_goals rfl

/-- Settles O1, by what the encoding is: a frame word, a scan-code byte or a call. -/
theorem decodeEncodeAgree : Obligations.DecodeEncodeAgree := by
  intro ctx i hwf hsel
  cases henc : encode i with
  | frame raw a => exact decode_frame_of_wf henc hwf hsel
  | scan b => exact congrArg Except.ok (classifyScan_of_wf henc hwf hsel)
  | call c => exact decodeCall_of_encode henc

/-- Settles O3: the frame cut out of the container does not depend on the bits above it. -/
theorem containerBitsAboveFrameIgnored : Obligations.ContainerBitsAboveFrameIgnored := by
  intro ctx r a
  constructor <;> intro hp
  · simp only [decode, hp, atOfRaw_masked]
  · simp only [decode, hp, xtOfRaw_masked]

end Sys2Proof
end

section
/-! The byte classes of the decoders as operations (R86), the words sent to the keyboard (R78), and the fixed sequences
(R82). -/

namespace Sys2Proof.Machine

/-! ## A byte class where it applies -/

theorem exec_decFeed (b : Byte) (s : State) :
    exec (.decFeed b) s = afterSetup s (fedBy (stepDecoder s.tables s.dec b) b s) := rfl

/-- In its state and on its bytes a byte class is its row of the transition table. -/
theorem byteClass_applies {st : DecState} {c : Bool} {t : Transition} {b : Byte} {s : State} (hd : s.dec = st)
    (hc : c = true) : byteClass st c t b s = afterSetup s (fedBy t b s) := by
  simp [byteClass, hd, hc]

/-- Outside its state and its bytes a byte class is refused (log entry 14). -/
theorem byteClass_refused {st : DecState} {c : Bool} {t : Transition} {b : Byte} {s : State} (hs : s.setupDone = true)
    (hn : ¬ (s.dec = st ∧ c = true)) : byteClass st c t b s = .refused .classNotSelected := by
  rw [byteClass, afterSetup, if_pos hs, if_neg (by simpa using hn)]

/-! The classes and the transition table of a state test the same conditions in the same order, so on every branch the class
read has that branch's transition. -/

theorem exec_classifySet1 {s : State} {st : S1State} (hd : s.dec = .set1 st) (b : Byte) :
    exec (classifySet1 st b) s = afterSetup s (fedBy (stepSet1 s.tables st b) b s) := by
  cases st <;> simp only [classifySet1, stepSet1] <;> split_ifs <;> subst_vars <;>
    exact byteClass_applies hd (by simp [*])

theorem exec_classifySet2 {s : State} {st : S2State} (hd : s.dec = .set2 st) (b : Byte) :
    exec (classifySet2 st b) s = afterSetup s (fedBy (stepSet2 s.tables st b) b s) := by
  cases st <;> simp only [classifySet2, stepSet2] <;> split_ifs <;> subst_vars <;>
    exact byteClass_applies hd (by simp [*])

theorem exec_classifySet3 {s : State} {st : S3State} (hd : s.dec = .set3 st) (b : Byte) :
    exec (classifySet3 s.tables st b) s = afterSetup s (fedBy (stepSet3 s.tables st b) b s) := by
  cases st <;> simp only [classifySet3, stepSet3] <;> split_ifs <;> subst_vars <;>
    exact byteClass_applies hd (by simp_all)

theorem exec_classifyAmiga {s : State} {st : AmigaState} (hd : s.dec = .amiga st) (b : Byte) :
    exec (classifyAmiga s.tables b) s = afterSetup s (fedBy (stepAmiga s.tables st b) b s) := by
  cases st
  simp only [classifyAmiga, stepAmiga]
  split_ifs with hkey
  · exact byteClass_applies hd (decide_eq_true hkey)
  · exact byteClass_applies hd (decide_eq_true (BitVec.not_le.mp hkey))

theorem exec_classifyM0110 {s : State} {st : M0State} (hd : s.dec = .m0110 st) (b : Byte) :
    exec (classifyM0110 st b) s = afterSetup s (fedBy (stepM0110 s.tables st b) b s) := by
  cases st <;> simp only [classifyM0110, stepM0110] <;> split_ifs <;> subst_vars <;>
    exact byteClass_applies hd (by simp_all)

/-- The class a byte falls in is the step of the selected decoder on it (R86, R140). -/
theorem exec_classifyScan (s : State) (b : Byte) :
    exec (classifyScan s.tables s.dec b) s = afterSetup s (fedBy (stepDecoder s.tables s.dec b) b s) := by
  cases hd : s.dec with
  | set1 st => exact exec_classifySet1 hd b
  | set2 st => exact exec_classifySet2 hd b
  | set3 st => exact exec_classifySet3 hd b
  | amiga st => exact exec_classifyAmiga hd b
  | m0110 st => exact exec_classifyM0110 hd b

/-- Settles O33: both are the step of the selected decoder. -/
theorem feedIsItsByteClass : Obligations.FeedIsItsByteClass :=
  fun s b => (exec_decFeed b s).trans (exec_classifyScan s b).symm

/-! ## A byte class in any state -/

/-- The condition of a byte class may be replaced by an equal one. -/
theorem byteClass_of_eq {st : DecState} {c w : Bool} {t : Transition} {b : Byte} {s : State} {o : Result}
    (ho : o = byteClass st c t b s) (hc : c = w) : o = byteClass st w t b s := hc ▸ ho

/-- An operation encoded as a byte is a byte class, and its condition is that of the class tables. -/
theorem exec_eq_byteClass {i : Instr} {b : Byte} (h : encode i = .scan b) (s : State) :
    ∃ st t, exec i s = byteClass st (i.wf s.framing s.tables) t b s ∧ (s.dec = st → selects s.context i = true) := by
  cases i <;> cases h <;> refine ⟨_, _, byteClass_of_eq rfl ?_, beq_iff_eq.mpr⟩
  all_goals simp [Instr.wf, isLow_eq, key7_eq, isSome_remap, isNone_remap, bit0Set_eq, Bool.and_comm, Bool.and_assoc]

/-- After `SETUP`, an operation encoded as a byte is the decoder's step on that byte where the decoder reads the byte as it,
and is refused elsewhere (R86, log entry 14). -/
theorem exec_of_encode_scan {i : Instr} {b : Byte} {s : State} (hs : s.setupDone = true) (h : encode i = .scan b) :
    exec i s = if classifyScan s.tables s.dec b = i then fedBy (stepDecoder s.tables s.dec b) b s
      else .refused .classNotSelected := by
  split_ifs with hread
  · rw [← hread, exec_classifyScan, afterSetup, if_pos hs]
  · obtain ⟨st, t, hexec, hsel⟩ := exec_eq_byteClass h s
    rw [hexec]
    exact byteClass_refused hs fun ⟨hd, hwf⟩ => hread (classifyScan_of_wf (ctx := s.context) h hwf (hsel hd))

/-- Settles O34: reading the byte as the operation decides between the decoder's step and the refusal. -/
theorem byteClassRunsExactlyWhereItApplies : Obligations.ByteClassRunsExactlyWhereItApplies := by
  intro s i b hs henc
  have hdecode : decode s.context (.scan b) = .ok i ↔ classifyScan s.tables s.dec b = i :=
    ⟨Except.ok.inj, congrArg Except.ok⟩
  rw [ne_eq, hdecode, exec_of_encode_scan hs henc]
  by_cases hread : classifyScan s.tables s.dec b = i
  · simp [hread, fedBy]
  · simp [hread]

/-! ## The words sent to the keyboard (R78) -/

theorem txWord_data (c : Byte) : (txWord c).extractLsb' 0 8 = c :=
  BitVec.extractLsb'_append_eq_right

theorem txWord_parity (c : Byte) : (txWord c).getLsbD 8 = par c :=
  (BitVec.getLsbD_append (x := BitVec.ofBool (par c)) (y := c)).trans (by simp)

/-- Settles O8: the layout, and the parity law of R101 for the parity bit. -/
theorem transmitWordLayout : Obligations.TransmitWordLayout := by
  refine ⟨fun c => ⟨txWord_data c, txWord_parity c, ?_⟩, rfl, rfl⟩
  have hodd : parityOdd c (par c) = true := by rw [parityOdd_eq, beq_self_eq_true]
  rw [txWord_parity]
  exact beq_iff_eq.mp hodd

/-! ## The fixed sequences (R82) -/

/-- A byte that only leads to another state gives no event (R81). -/
theorem decodedEvents_toState {tb : Tables} {d e : DecState} {b : Byte} {rest : List Byte}
    (h : stepDecoder tb d b = toState e) : decodedEvents tb d (b :: rest) = decodedEvents tb e rest := by
  simp [decodedEvents, h, toState]

/-- A byte that completes a sequence gives its event. -/
theorem decodedEvents_emitKey {tb : Tables} {d : DecState} {b : Byte} {c : CodeSet} {k : Byte} {m : Bool}
    (h : stepDecoder tb d b = emitKey c k m) : decodedEvents tb d [b] = [{ code := k, make := m }] := by
  simp [decodedEvents, h, emitKey, complete]

/-- Settles O37: all bytes but the last only lead on to the next state, and the last completes the sequence. -/
theorem pauseSequencesGiveOneEventPerHalf : Obligations.PauseSequencesGiveOneEventPerHalf := by
  intro tb
  have hpress1 (rest : List Byte) : decodedEvents tb (.set1 .init) (0xE1#8 :: 0x1D#8 :: rest) =
      decodedEvents tb (.set1 .e1x1D) rest := (decodedEvents_toState rfl).trans (decodedEvents_toState rfl)
  have hrelease1 (rest : List Byte) : decodedEvents tb (.set1 .init) (0xE1#8 :: 0x9D#8 :: rest) =
      decodedEvents tb (.set1 .e1x9D) rest := (decodedEvents_toState rfl).trans (decodedEvents_toState rfl)
  have hpress2 (rest : List Byte) : decodedEvents tb (.set2 .init) (0xE1#8 :: 0x14#8 :: rest) =
      decodedEvents tb (.set2 .e1x14) rest := (decodedEvents_toState rfl).trans (decodedEvents_toState rfl)
  have hrelease2 (rest : List Byte) : decodedEvents tb (.set2 .init) (0xE1#8 :: 0xF0#8 :: 0x14#8 :: 0xF0#8 :: rest) =
      decodedEvents tb (.set2 .e1F0x14F0) rest :=
    ((decodedEvents_toState rfl).trans (decodedEvents_toState rfl)).trans
      ((decodedEvents_toState rfl).trans (decodedEvents_toState rfl))
  exact ⟨hpress1 [], (hpress1 _).trans (decodedEvents_emitKey rfl),
    hrelease1 [], (hrelease1 _).trans (decodedEvents_emitKey rfl),
    hpress2 [], (hpress2 _).trans (decodedEvents_emitKey rfl),
    hrelease2 [], (hrelease2 _).trans (decodedEvents_emitKey rfl)⟩

end Sys2Proof.Machine
end

section
/-! The frame checks (R101, R104, R107) and where a validated byte goes (R105, R108, R232). -/

namespace Sys2Proof.Machine

/-! ## Parity -/

/-- The law of R101 determines the parity bit: it is the table entry of the byte and nothing else. -/
theorem odd_popcount_add_iff (b : Byte) (p : Bool) : (popcount b + p.toNat) % 2 = 1 ↔ p = par b := by
  have hlaw : parityOdd b p = true ↔ (p == par b) = true := by rw [parityOdd_eq]
  simpa only [parityOdd, beq_iff_eq] using hlaw

/-- Settles O5: both parts are the two directions of `odd_popcount_add_iff`. -/
theorem parityLaw : Obligations.ParityLaw :=
  ⟨fun b => (odd_popcount_add_iff b _).mpr rfl, fun f hf => funext fun b => (odd_popcount_add_iff b (f b)).mp (hf b)⟩

/-! ## The checks of a frame word -/

theorem decodeAt_badStart {fr : Framing} {w : AtFrame} (hstart : atStartBit w ≠ fr.atStart) :
    decodeAt fr w = .error .badStart := by
  simp [decodeAt, hstart]

theorem decodeAt_badStop {fr : Framing} {w : AtFrame} (hstart : atStartBit w = fr.atStart)
    (hstop : atStopBit w ≠ fr.atStop) : decodeAt fr w = .error .badStop := by
  simp [decodeAt, hstart, hstop]

theorem decodeAt_badParity {fr : Framing} {w : AtFrame} (hstart : atStartBit w = fr.atStart)
    (hstop : atStopBit w = fr.atStop) (hparity : atParityBit w ≠ par (atData w)) :
    decodeAt fr w = .error .badParity := by
  simp [decodeAt, hstart, hstop, hparity]

theorem decodeAt_valid {fr : Framing} {w : AtFrame} (hstart : atStartBit w = fr.atStart)
    (hstop : atStopBit w = fr.atStop) (hparity : atParityBit w = par (atData w)) :
    decodeAt fr w = .ok (atData w) := by
  simp [decodeAt, hstart, hstop, hparity]

theorem decodeXt_badStart {fr : Framing} {w : XtFrame} (hstart : xtStartBit w ≠ fr.xtStart) :
    decodeXt fr w = .error .badStart := by
  simp [decodeXt, hstart]

theorem decodeXt_valid {fr : Framing} {w : XtFrame} (hstart : xtStartBit w = fr.xtStart) :
    decodeXt fr w = .ok (xtData w) := by
  simp [decodeXt, hstart]

/-- Settles O6: one clause for each outcome of the checks; the sample words are computed. -/
theorem frameChecksInOrder : Obligations.FrameChecksInOrder :=
  ⟨fun _ _ => ⟨decodeAt_badStart, decodeAt_badStop, decodeAt_badParity, decodeAt_valid⟩,
    fun _ _ => ⟨decodeXt_badStart, decodeXt_valid⟩, rfl, rfl, rfl, rfl, rfl, rfl, rfl, rfl, rfl⟩

/-! ## A put, by whether there is room -/

theorem ringPut_state_of_room (b : Byte) {s : State} (room : s.rb.head + 1#5 ≠ s.rb.tail) :
    (ringPut b s).1 = (s.putSlot s.rb.head b).setHead (s.rb.head + 1#5) :=
  congrArg Prod.fst (ringPut_room b s (beq_eq_false_iff_ne.mpr room))

theorem ringPut_state_of_full (b : Byte) {s : State} (full : s.rb.head + 1#5 = s.rb.tail) :
    (ringPut b s).1 = s.emitDiag (.bufferOverflow b) :=
  congrArg Prod.fst (ringPut_full b s (beq_iff_eq.mpr full))

/-! ## A validated byte -/

/-- On a word that passes the checks, `RX.AT` and its class `RX.AT.OK` both route the data byte (R76, R105). -/
theorem exec_rxAt_valid {s t : State} {w : AtFrame} {a : Action} (hs : s.setupDone = true) (hp : s.proto = .atPs2)
    (hstart : atStartBit w = s.framing.atStart) (hstop : atStopBit w = s.framing.atStop)
    (hparity : atParityBit w = par (atData w)) (hroute : routeAt (atData w) a s = t) :
    exec (.rxAt w a) s = .next (t.answer .none) ∧ exec (.rxAtOk w a) s = .next (t.answer .none) := by
  subst hroute
  constructor
  · rw [exec_rxAt w a s hs hp, rxAtBody, decodeAt_valid hstart hstop hparity]
  · refine (frameClass_next_iff _ _ s _ _).mpr ⟨hs, hp, ?_, rfl⟩
    simp [hstart, hstop, hparity]

/-- On a word with a good start bit, `RX.XT` and its class `RX.XT.OK` both route the data byte (R77, R108). -/
theorem exec_rxXt_valid {s t : State} {w : XtFrame} {a : Action} (hs : s.setupDone = true) (hp : s.proto = .xt)
    (hstart : xtStartBit w = s.framing.xtStart) (hroute : routeXt (xtData w) a s = t) :
    exec (.rxXt w a) s = .next (t.answer .none) ∧ exec (.rxXtOk w a) s = .next (t.answer .none) := by
  subst hroute
  constructor
  · rw [exec_rxXt w a s hs hp, rxXtBody, decodeXt_valid hstart]
  · exact (frameClass_next_iff _ _ s _ _).mpr ⟨hs, hp, beq_iff_eq.mpr hstart, rfl⟩

/-- Settles O13: `exec_rxAt_valid`, and what `routeAt` does for each answer of the session. -/
theorem validatedAtByteRouted : Obligations.ValidatedAtByteRouted := by
  intro s w hs hp hstart hstop hparity
  refine ⟨fun c => ?sent, ?heard, fun room => ?accepted, fun full => ?dropped⟩ <;>
    refine exec_rxAt_valid hs hp hstart hstop hparity ?_
  case sent | heard => rfl
  case accepted => exact ringPut_state_of_room (s := s.ask _) _ room
  case dropped => exact ringPut_state_of_full (s := s.ask _) _ full

/-- Settles O14: `exec_rxXt_valid`, and what `routeXt` does for each answer that R254c allows. -/
theorem validatedXtByteRouted : Obligations.ValidatedXtByteRouted := by
  intro s w hs hp hstart
  refine ⟨?heard, fun room => ?accepted, fun full => ?dropped⟩ <;> refine exec_rxXt_valid hs hp hstart ?_
  case heard => rfl
  case accepted => exact ringPut_state_of_room (s := s.ask _) _ room
  case dropped => exact ringPut_state_of_full (s := s.ask _) _ full

end Sys2Proof.Machine
end

section
/-! Under XT nothing is sent (R108): `tx` stays as it is in every operation of either agent. The only writers of `tx` are
the answer `SendCommand` in `routeAt` and the reaction to `BadParity`, and an XT word comes to neither. -/

namespace Sys2Proof.Machine

/-! ## The producer -/

@[simp] theorem ringPut_out_tx (b : Byte) (s : State) : (ringPut b s).1.out.tx = s.out.tx := by
  cases h : rbFull s with
  | false => rw [ringPut_room b s h]; rfl
  | true => rw [ringPut_full b s h]; rfl

@[simp] theorem routeXt_out_tx (b : Byte) (a : Action) (s : State) : (routeXt b a s).out.tx = s.out.tx := by
  cases a with
  | sendCommand c => rfl
  | enqueueForDecoding => exact ringPut_out_tx b _
  | none => rfl

theorem raise_badStart_out_tx (w : FrameWord) (s : State) : (raise (.frameError .badStart w) s).out.tx = s.out.tx := rfl

@[simp] theorem rxXtBody_out_tx (w : XtFrame) (a : Action) (s : State) : (rxXtBody w a s).out.tx = s.out.tx := by
  by_cases hstart : xtStartBit w = s.framing.xtStart
  · rw [rxXtBody, decodeXt_valid hstart]
    exact routeXt_out_tx _ a s
  · rw [rxXtBody, decodeXt_badStart hstart]
    exact raise_badStart_out_tx _ s

theorem receive_out_tx {s : State} (hp : s.proto = .xt) (f : Frame) : (receive f s).out.tx = s.out.tx := by
  simp [receive, hp]

theorem runProducer_out_tx {s : State} (hp : s.proto = .xt) (n : Nat) : (runProducer n s).out.tx = s.out.tx := by
  induction n generalizing s with
  | zero => rfl
  | succ n ih =>
    unfold runProducer
    split
    · next f rest _ _ =>
      have htaken : (receive f (s.setRcv rest)).proto = .xt := (receive_spec f _).1.proto.trans hp
      exact (ih htaken).trans (receive_out_tx (s := s.setRcv rest) hp f)
    · rfl

/-- However many words the schedule lets the producer take at a boundary (R10), none leads to a transmission. -/
@[simp] theorem preempt_out_tx {s : State} (hp : s.proto = .xt) : (preempt s).out.tx = s.out.tx := by
  unfold preempt
  split
  · rfl
  · next n rest _ => exact runProducer_out_tx (s := s.setPreempts rest) hp n

theorem underProto_proto {p : Proto} {s t : State} {k : Result} (h : underProto p s k = .next t) : s.proto = p :=
  have ⟨_, hproto, _⟩ := (underProto_next_iff p s t k).mp h
  hproto

/-- Under XT the operations on AT/PS2 words are refused, and the others of the producer leave `tx` alone. -/
theorem exec_producer_out_tx {i : Instr} {s t : State} (hp : s.proto = .xt) (ha : i.agent = .producer)
    (h : exec i s = .next t) : t.out.tx = s.out.tx := by
  cases i with
  | rxAtBadStart | rxAtBadStop | rxAtBadParity | rxAtOk | rxAt => cases hp.symm.trans (underProto_proto h)
  | rxXtBadStart w => rw [frameClass_ended h]; exact raise_badStart_out_tx _ s
  | rxXtOk w a => rw [frameClass_ended h]; exact routeXt_out_tx _ a s
  | rxXt w a => rw [underProto_ended h]; exact rxXtBody_out_tx w a s
  | rbIsFull => rw [afterSetup_answer h]; rfl
  | rbPut b => rw [afterSetup_answer h]; exact ringPut_out_tx b s
  | _ => cases ha

/-! ## The consumer: only its boundaries could write `tx` -/

@[simp] theorem readSlot_proto (s : State) : (readSlot s).2.proto = s.proto := (readSlot_sameConfiguration s).proto

@[simp] theorem drain_proto (s : State) : (drain s).proto = s.proto := (drain_sameConfiguration s).proto

theorem applyTransition_out_tx {tr : Transition} {c : CodeSet} (lawful : tr.Lawful c) (b : Byte) (s : State) :
    (applyTransition tr b s).out.tx = s.out.tx := by
  obtain ⟨_, _, h⟩ := applyTransition_frame lawful b s
  rw [h]

/-- The boundaries, the slot read and the release of a get (R125). -/
theorem release_out_tx {s : State} (hp : s.proto = .xt) :
    (releaseSlot (preempt (readSlot (preempt s)).2)).out.tx = s.out.tx := by
  simp [releaseSlot, hp]

theorem ringGet_out_tx {s : State} (hp : s.proto = .xt) : (ringGet s).1.out.tx = s.out.tx := by
  by_cases he : s.rb.head = s.rb.tail
  · rw [ringGet_empty s he]; rfl
  · have hget : (ringGet s).1 = releaseSlot (preempt (readSlot (preempt s)).2) := by simp [ringGet, rbEmpty, he]
    rw [hget, release_out_tx hp]

theorem deliverEvent_out_tx {s : State} (hp : s.proto = .xt) (e : Option KeyEvent) :
    (deliverEvent e s).out.tx = s.out.tx := by
  cases e with
  | none => rfl
  | some ev => exact preempt_out_tx hp

theorem drain_out_tx {s : State} (hp : s.proto = .xt) : (drain s).out.tx = s.out.tx := by
  by_cases he : s.rb.head = s.rb.tail
  · rw [drain_empty he]
  · have hbefore : (beforeFeed s).out.tx = s.out.tx := by simp [beforeFeed, releaseSlot, hp]
    have hfed : (feed (takenByte s) (beforeFeed s)).out.tx = s.out.tx :=
      (applyTransition_out_tx (stepDecoder_lawful _ _ _) _ _).trans hbefore
    have hproto : (feed (takenByte s) (beforeFeed s)).proto = .xt := by simp [feed_eq, beforeFeed, releaseSlot, hp]
    rw [drain_nonempty he, deliverEvent_out_tx hproto, hfed]

theorem taskIterBody_out_tx {s : State} (hp : s.proto = .xt) (now : Nat) (ready : Bool) :
    (taskIterBody now ready s).out.tx = s.out.tx := by
  cases ready with
  | false => simp [taskIterBody_not_ready, hp]
  | true => simp [taskIterBody_ready, drain_out_tx, hp]

theorem ConsumerRun.out_tx {i : Instr} {s u : State} (h : ConsumerRun s i u) (hp : s.proto = .xt) :
    u.out.tx = s.out.tx := by
  cases h with
  | setup | queried | cleared => rfl
  | got => exact ringGet_out_tx hp
  | iterated now ready => exact taskIterBody_out_tx hp now ready
  | fed tr b lawful => exact applyTransition_out_tx lawful b s

/-! ## A step -/

theorem exec_out_tx {i : Instr} {s t : State} (hp : s.proto = .xt) (h : exec i s = .next t) : t.out.tx = s.out.tx := by
  cases ha : i.agent with
  | producer => exact exec_producer_out_tx hp ha h
  | consumer =>
    obtain ⟨u, r, hrun, rfl⟩ := exec_consumer ha h
    exact hrun.out_tx hp

/-- Settles O49: fetching leaves the streams alone, and under XT so does every operation with `tx`. -/
theorem xtInstanceTransmitsNothing : Obligations.XtInstanceTransmitsNothing := by
  intro s t hp h
  rcases step_cases h with ⟨env, irqEn, rfl⟩ | ⟨i, env, hexec⟩
  · rfl
  · exact exec_out_tx (s := { s with env := env }) hp hexec

end Sys2Proof.Machine
end

section
/-! The ring operations with no word scheduled inside them (R121 to R129): what each gives, by the fill level, and the FIFO
law that a run of puts and gets obeys. -/

namespace Sys2Proof.Machine

/-! ## The fill level (R123) -/

theorem rbCount_le (s : State) : rbCount s ≤ 31 := Nat.le_of_lt_succ (s.rb.head - s.rb.tail).isLt

theorem rbEmpty_iff_count (s : State) : rbEmpty s = true ↔ rbCount s = 0 := by
  rw [rbEmpty_iff, rbCount]
  bv_omega

theorem rbFull_iff_count (s : State) : rbFull s = true ↔ rbCount s = 31 := by
  rw [rbFull_iff, rbCount]
  bv_omega

theorem count_release {h t : Index} (nonempty : h ≠ t) : (h - nextIndex t).toNat + 1 = (h - t).toNat := by
  unfold nextIndex
  bv_omega

/-! ## One equation per operation -/

theorem exec_rbPut_room (b : Byte) {s : State} (hs : s.setupDone = true) (room : rbFull s = false) :
    exec (.rbPut b) s = .next (((s.putSlot s.rb.head b).setHead (s.rb.head + 1#5)).answer (.put true)) := by
  simp [exec, execRbPut, afterSetup, hs, ringPut_room b s room, nextIndex]

theorem exec_rbPut_full (b : Byte) {s : State} (hs : s.setupDone = true) (full : rbFull s = true) :
    exec (.rbPut b) s = .next ((s.emitDiag (.bufferOverflow b)).answer (.put false)) := by
  simp [exec, execRbPut, afterSetup, hs, ringPut_full b s full]

theorem exec_rbGet_empty {s : State} (hs : s.setupDone = true) (empty : s.rb.head = s.rb.tail) :
    exec .rbGet s = .next (s.useFree.answer (.got (Config.freeByte s.freeCount) false)) := by
  simp [exec, execRbGet, afterSetup, hs, ringGet_empty s empty]

/-- A get that nothing disturbs is its two micro-steps: the read of the slot and its release (R125). -/
theorem exec_rbGet_undisturbed {s : State} (hs : s.setupDone = true) (hp : s.env.preempts = [])
    (nonempty : s.rb.head ≠ s.rb.tail) :
    exec .rbGet s = .next (((readSlot s).2.setTail (s.rb.tail + 1#5)).answer (.got (readSlot s).1 true)) := by
  simp [exec, execRbGet, afterSetup, hs, ringGet, rbEmpty, nonempty, preempt_undisturbed, hp, releaseSlot, nextIndex]

theorem readSlot_none {s : State} (hv : Memory.read s.rb.buf s.rb.tail.toNat = none) :
    readSlot s = (Config.freeByte s.freeCount, s.useFree) := by
  simp [readSlot, hv, takeFree]

/-! ## The fill level after a put and after a get (R129) -/

theorem rbCount_put (b : Byte) {s : State} (r : CallResult) (room : rbFull s = false) :
    rbCount (((s.putSlot s.rb.head b).setHead (s.rb.head + 1#5)).answer r) = rbCount s + 1 :=
  count_next s.rb.head s.rb.tail (beq_eq_false_iff_ne.mp room)

theorem rbCount_get {s : State} (r : CallResult) (nonempty : s.rb.head ≠ s.rb.tail) :
    rbCount (((readSlot s).2.setTail (s.rb.tail + 1#5)).answer r) + 1 = rbCount s := by
  simp only [rbCount, answer_rb, setTail_rb_head, setTail_rb_tail, readSlot_rb]
  exact count_release nonempty

/-! ## A run of puts, then a run of gets (R127) -/

/-- What the puts of `l` do to a ring with room for them all: its live slots stay written, and `l` follows the bytes held. -/
structure AfterPuts (l : List Byte) (s u : State) : Prop where
  setupDone : u.setupDone = s.setupDone
  env : u.env = s.env
  live : LiveWritten s.rb → LiveWritten u.rb
  appended : held u = held s ++ l
  head : u.rb.head = s.rb.head + BitVec.ofNat 5 l.length
  tail : u.rb.tail = s.rb.tail

theorem AfterPuts.nil (s : State) : AfterPuts [] s s := ⟨rfl, rfl, id, by simp, by simp, rfl⟩

theorem AfterPuts.append {l m : List Byte} {s t u : State} (h : AfterPuts l s t) (k : AfterPuts m t u) :
    AfterPuts (l ++ m) s u where
  setupDone := k.setupDone.trans h.setupDone
  env := k.env.trans h.env
  live := k.live ∘ h.live
  appended := by rw [k.appended, h.appended, List.append_assoc]
  head := by rw [k.head, h.head, BitVec.add_assoc, ← BitVec.ofNat_add, List.length_append]
  tail := k.tail.trans h.tail

theorem put_afterPuts (b : Byte) {s : State} (r : CallResult) (room : rbFull s = false) :
    AfterPuts [b] s (((s.putSlot s.rb.head b).setHead (s.rb.head + 1#5)).answer r) where
  setupDone := rfl
  env := rfl
  live := liveWritten_put b (beq_eq_false_iff_ne.mp room)
  appended := by
    have hne : nextIndex s.rb.head ≠ s.rb.tail := beq_eq_false_iff_ne.mp room
    have h := ringHeld_ringAdd_room s.rb b hne
    rw [ringAdd, if_neg hne] at h
    exact h
  head := rfl
  tail := rfl

theorem putAll_completes (l : List Byte) {s : State} (hs : s.setupDone = true) (room : rbCount s + l.length ≤ 31) :
    ∃ u, putAll l s = .next u ∧ AfterPuts l s u := by
  induction l generalizing s with
  | nil => exact ⟨s, rfl, .nil s⟩
  | cons b rest ih =>
    rw [List.length_cons] at room
    have hroom : rbFull s = false := by
      rw [← Bool.not_eq_true, rbFull_iff_count]
      omega
    obtain ⟨u, hu, hafter⟩ := ih (s := ((s.putSlot s.rb.head b).setHead (s.rb.head + 1#5)).answer (.put true)) hs
      (by rw [rbCount_put b _ hroom]; omega)
    refine ⟨u, ?_, (put_afterPuts b _ hroom).append hafter⟩
    rw [putAll, exec_rbPut_room b hs hroom, andThen_next, hu]

/-- Where the live slots are written, the oldest byte held stands in the slot at `rb.tail`; its release leaves the rest. -/
theorem oldest_of_held {s : State} {v : Byte} {rest : List Byte} (live : LiveWritten s.rb) (hheld : held s = v :: rest) :
    s.rb.head ≠ s.rb.tail ∧ Memory.read s.rb.buf s.rb.tail.toNat = some v ∧
      ringHeld { s.rb with tail := nextIndex s.rb.tail } = rest := by
  have nonempty : s.rb.head ≠ s.rb.tail := fun he => by simp [held, rbCount, he, heldFrom] at hheld
  have hpos : 0 < (s.rb.head - s.rb.tail).toNat := by rw [← count_release nonempty]; exact Nat.succ_pos _
  obtain ⟨w, hw⟩ := Option.isSome_iff_exists.mp (live 0 hpos)
  rw [BitVec.add_zero] at hw
  have hrelease := ringHeld_release s.rb w nonempty hw
  rw [← held_eq, hheld, List.cons.injEq] at hrelease
  obtain ⟨rfl, hrest⟩ := hrelease
  exact ⟨nonempty, hw, hrest.symm⟩

theorem getAll_held (l : List Byte) {s : State} (hs : s.setupDone = true) (hp : s.env.preempts = [])
    (live : LiveWritten s.rb) (hheld : held s = l) :
    ∃ t, getAll l.length s = .next (t, l.map fun b => .got b true) := by
  induction l generalizing s with
  | nil => exact ⟨s, rfl⟩
  | cons v rest ih =>
    obtain ⟨nonempty, hread, hrest⟩ := oldest_of_held live hheld
    have hget := exec_rbGet_undisturbed hs hp nonempty
    rw [readSlot_some hread] at hget
    obtain ⟨t, ht⟩ := ih (s := (s.setTail (s.rb.tail + 1#5)).answer (.got v true)) hs hp
      (liveWritten_release nonempty live) hrest
    exact ⟨t, by simp [getAll, hget, ht]⟩

/-- Puts on an empty ring leave it holding exactly their bytes, every one of them written. -/
theorem AfterPuts.of_empty {l : List Byte} {s u : State} (h : AfterPuts l s u) (empty : s.rb.head = s.rb.tail) :
    LiveWritten u.rb ∧ held u = l :=
  ⟨h.live (liveWritten_of_empty empty), by rw [h.appended]; simp [held, rbCount, empty, heldFrom]⟩

/-- Settles O25: the puts leave the ring holding the bytes, each get takes the oldest of them. -/
theorem putsThenGetsReturnTheBytes : Obligations.PutsThenGetsReturnTheBytes := by
  intro s l hs hp hempty hlen
  have hroom : rbCount s + l.length ≤ 31 := by rwa [(rbEmpty_iff_count s).mp hempty, Nat.zero_add]
  obtain ⟨u, hputs, hafter⟩ := putAll_completes l hs hroom
  obtain ⟨hlive, hheld⟩ := hafter.of_empty ((rbEmpty_iff s).mp hempty)
  obtain ⟨t, hgets⟩ := getAll_held l (hafter.setupDone.trans hs) (by rw [hafter.env, hp]) hlive hheld
  exact ⟨u, t, hputs, hgets⟩

/-- Settles O26: 31 puts on an empty ring fill it, and the rejected put leaves the ring to the gets as it was. -/
theorem overflowRejectsThe32ndPut : Obligations.OverflowRejectsThe32ndPut := by
  refine ⟨fun s p c => ⟨_, rfl, rfl, rfl, rfl, rfl⟩, ?_⟩
  intro s l b hs hhead htail hp hlen
  have hempty : s.rb.head = s.rb.tail := hhead.trans htail.symm
  have hroom : rbCount s + l.length ≤ 31 := by
    rw [(rbEmpty_iff_count s).mp ((rbEmpty_iff s).mpr hempty), Nat.zero_add, hlen]
  obtain ⟨u, hputs, hafter⟩ := putAll_completes l hs hroom
  obtain ⟨hlive, hheld⟩ := hafter.of_empty hempty
  have huhead : u.rb.head = 31#5 := by rw [hafter.head, hhead, hlen]; rfl
  have hutail : u.rb.tail = 0#5 := hafter.tail.trans htail
  have husetup : u.setupDone = true := hafter.setupDone.trans hs
  have hfull : rbFull u = true := by rw [rbFull_iff, huhead, hutail]; rfl
  obtain ⟨v, hgets⟩ := getAll_held l (s := (u.emitDiag (.bufferOverflow b)).answer (.put false)) husetup
    (by simp [hafter.env, hp]) hlive hheld
  exact ⟨u, _, v, hputs, huhead, hutail, exec_rbPut_full b husetup hfull, rfl, rfl, rfl, hlen ▸ hgets⟩

/-! ## The operations one by one -/

/-- Settles O27, by whether the ring is full at the put and empty at the get. -/
theorem fillLevelConserved : Obligations.FillLevelConserved := by
  refine fun s => ⟨rbCount_le s, fun b t hput => ?_, fun t hp hget => ?_⟩
  · have hs : s.setupDone = true := ((afterSetup_next_iff s t _).mp hput).1
    cases hfull : rbFull s with
    | false =>
      rw [exec_rbPut_room b hs hfull, Host.Outcome.next.injEq] at hput
      subst hput
      exact .inl ⟨rfl, rbCount_put b _ hfull⟩
    | true =>
      rw [exec_rbPut_full b hs hfull, Host.Outcome.next.injEq] at hput
      subst hput
      have hcount : rbCount s = 31 := (rbFull_iff_count s).mp hfull
      exact .inr ⟨rfl, hcount, hcount⟩
  · have hs : s.setupDone = true := ((afterSetup_next_iff s t _).mp hget).1
    by_cases hempty : s.rb.head = s.rb.tail
    · rw [exec_rbGet_empty hs hempty, Host.Outcome.next.injEq] at hget
      subst hget
      have hcount : rbCount s = 0 := (rbEmpty_iff_count s).mp ((rbEmpty_iff s).mpr hempty)
      exact .inr ⟨_, rfl, hcount, hcount⟩
    · rw [exec_rbGet_undisturbed hs hp hempty, Host.Outcome.next.injEq] at hget
      subst hget
      exact .inl ⟨_, rfl, rbCount_get _ hempty⟩

/-- Settles O18. -/
theorem ringQueriesAnswerTheIndices : Obligations.RingQueriesAnswerTheIndices := by
  intro s hs
  have hempty : rbEmpty s = decide (s.rb.head = s.rb.tail) := Bool.eq_iff_iff.mpr (by simp [rbEmpty_iff])
  have hfull : rbFull s = decide ((s.rb.head.toNat + 1) % 32 = s.rb.tail.toNat) :=
    Bool.eq_iff_iff.mpr (by simp [rbFull_iff])
  simp [exec, execRbIsEmpty, execRbIsFull, afterSetup, hs, hempty, hfull]

/-- Settles O20: the flags after the put follow from the fill level, which it raises by one. -/
theorem putAcceptsUnlessFull : Obligations.PutAcceptsUnlessFull := by
  refine fun s b hs => ⟨fun hroom => ?_, fun hfull => ?_⟩
  · have hroom : rbFull s = false := by rwa [← Bool.not_eq_true, rbFull_iff]
    have hcount := rbCount_put b (.put true) hroom
    refine ⟨exec_rbPut_room b hs hroom, ?_, ?_⟩
    · rw [← Bool.not_eq_true, rbEmpty_iff_count, hcount]
      exact Nat.succ_ne_zero _
    · rw [rbFull_iff_count, hcount, Nat.succ_inj]
  · have hfull : rbFull s = true := (rbFull_iff s).mpr hfull
    exact ⟨(rbFull_iff_count s).mp hfull, exec_rbPut_full b hs hfull⟩

/-- Settles O21, by whether the ring is empty and whether its oldest slot was written. -/
theorem getTakesTheSlotAtTail : Obligations.GetTakesTheSlotAtTail := by
  refine fun s hs => ⟨fun hempty => ⟨_, exec_rbGet_empty hs hempty⟩, fun nonempty hp => ?_⟩
  have hget := exec_rbGet_undisturbed hs hp nonempty
  refine ⟨fun v hwritten => ?_, fun hunwritten => ?_⟩
  · rwa [readSlot_some hwritten] at hget
  · rw [readSlot_none hunwritten] at hget
    exact ⟨_, hget⟩

theorem quiescent_iff (s : State) : quiescent s = true ↔ s.irqEn = false ∨ s.env.rcv = [] := by
  simp [quiescent]

/-- Settles O23. -/
theorem ringResetNeedsQuiescence : Obligations.RingResetNeedsQuiescence := by
  refine fun s hs => ⟨fun hquiet => ⟨?_, rfl, rfl, (rbEmpty_iff_count _).mp rfl⟩, fun henabled hwaiting => ?_⟩
  · have hq : quiescent s = true := (quiescent_iff s).mpr hquiet
    simp [exec, execRbReset, afterSetup, hs, hq, clearIndices]
  · have hq : quiescent s = false := by
      rw [← Bool.not_eq_true, quiescent_iff]
      simp [henabled, hwaiting]
    simp [exec, execRbReset, afterSetup, hs, hq]

end Sys2Proof.Machine
end

section
/-! The contract the decoders share: what `DEC.FEED` may change (R140 to R142, R275), and how long a sequence can be (R83,
R143). -/

namespace Sys2Proof.Machine

/-! ## `DEC.FEED` -/

/-- After `SETUP`, `DEC.FEED` applies the decoder's transition and returns its event (R140). -/
theorem exec_decFeed_of_setup (b : Byte) {s : State} (hs : s.setupDone = true) :
    exec (.decFeed b) s = .next ((applyTransition (stepDecoder s.tables s.dec b) b s).answer
      (.fed (stepDecoder s.tables s.dec b).event)) := by
  rw [exec_decFeed, afterSetup, if_pos hs, fedBy]

/-- Settles O35: the transition is lawful, and a lawful transition is applied with or without a diagnostic. -/
theorem feedTouchesOnlyTheDecoder : Obligations.FeedTouchesOnlyTheDecoder := by
  intro s b hs
  have lawful := stepDecoder_lawful s.tables s.dec b
  have hexec := exec_decFeed_of_setup b hs
  rcases applyTransition_spec lawful b s with ⟨_, happly⟩ | ⟨herror, happly⟩
  · rw [happly] at hexec
    exact ⟨_, _, lawful.codeSet, .inl hexec⟩
  · rw [happly, (lawful.error herror).2] at hexec
    exact ⟨_, _, initOf_codeSet _, .inr ⟨hexec, rfl, rfl⟩⟩

/-! ## The length of a sequence -/

@[simp] theorem toState_next (d : DecState) : (toState d).next = d := rfl
@[simp] theorem complete_next (c : CodeSet) (e : Option KeyEvent) : (complete c e).next = DecState.initOf c := rfl
@[simp] theorem emitKey_next (c : CodeSet) (k : Byte) (m : Bool) : (emitKey c k m).next = DecState.initOf c := rfl
@[simp] theorem unexpected_next (c : CodeSet) : (unexpected c).next = DecState.initOf c := rfl

/-- How many prefix bytes a decoder state can absorb before a step must end in `INIT`: the longest path of prefixes from it
in the transition tables (R143). -/
def prefixesLeft : DecState → Nat
  | .set1 .init => 2
  | .set1 .e1 => 1
  | .set1 .e0 | .set1 .e1x1D | .set1 .e1x9D => 0
  | .set2 .init => 4
  | .set2 .e1 => 3
  | .set2 .e1F0 => 2
  | .set2 .e1F0x14 | .set2 .e0 => 1
  | .set2 .f0 | .set2 .e0F0 | .set2 .e1x14 | .set2 .e1F0x14F0 => 0
  | .set3 .init => 1
  | .set3 .f0 => 0
  | .amiga .init => 0
  | .m0110 .init => 2
  | .m0110 .p71 => 1
  | .m0110 .p79 | .m0110 .p71x79 => 0

theorem prefixesLeft_le_four (d : DecState) : prefixesLeft d ≤ 4 := by
  unfold prefixesLeft
  split <;> decide

/-- A transition from `d` ends in `INIT`, or absorbs a prefix byte. -/
def Transition.Advances (t : Transition) (d : DecState) : Prop :=
  t.next = DecState.initOf d.codeSet ∨ prefixesLeft t.next < prefixesLeft d

theorem stepSet1_advances (tb : Tables) (st : S1State) (b : Byte) : (stepSet1 tb st b).Advances (.set1 st) := by
  cases st <;> simp only [stepSet1] <;> split_ifs <;> simp [Transition.Advances, DecState.codeSet, prefixesLeft]

theorem stepSet2_advances (tb : Tables) (st : S2State) (b : Byte) : (stepSet2 tb st b).Advances (.set2 st) := by
  cases st <;> simp only [stepSet2] <;> split_ifs <;> simp [Transition.Advances, DecState.codeSet, prefixesLeft]

theorem stepSet3_advances (tb : Tables) (st : S3State) (b : Byte) : (stepSet3 tb st b).Advances (.set3 st) := by
  cases st <;> simp only [stepSet3] <;> split_ifs <;> simp [Transition.Advances, DecState.codeSet, prefixesLeft]

theorem stepAmiga_advances (tb : Tables) (st : AmigaState) (b : Byte) : (stepAmiga tb st b).Advances (.amiga st) := by
  cases st
  simp only [stepAmiga]
  split_ifs <;> exact .inl rfl

theorem stepM0110_advances (tb : Tables) (st : M0State) (b : Byte) : (stepM0110 tb st b).Advances (.m0110 st) := by
  cases st <;> simp only [stepM0110] <;> split_ifs <;> simp [Transition.Advances, DecState.codeSet, prefixesLeft]

/-- A step of any decoder ends in `INIT`, or uses up one of the prefixes left (R143). -/
theorem stepDecoder_advances (tb : Tables) (d : DecState) (b : Byte) : (stepDecoder tb d b).Advances d := by
  cases d with
  | set1 st => exact stepSet1_advances tb st b
  | set2 st => exact stepSet2_advances tb st b
  | set3 st => exact stepSet3_advances tb st b
  | amiga st => exact stepAmiga_advances tb st b
  | m0110 st => exact stepM0110_advances tb st b

/-- Of the steps on the bytes, fed one after the other from `d`, one ends in `INIT` of the code set `c`. -/
def ReachesInit (tb : Tables) (c : CodeSet) : DecState → List Byte → Prop
  | _, [] => False
  | d, b :: rest => (stepDecoder tb d b).next = DecState.initOf c ∨ ReachesInit tb c (stepDecoder tb d b).next rest

/-- More bytes than there are prefixes left take the decoder through `INIT`. -/
theorem reachesInit_of_prefixesLeft_lt (tb : Tables) {d : DecState} {bytes : List Byte}
    (h : prefixesLeft d < bytes.length) : ReachesInit tb d.codeSet d bytes := by
  induction bytes generalizing d with
  | nil => exact absurd h (Nat.not_lt_zero _)
  | cons b rest ih =>
    rcases stepDecoder_advances tb d b with hinit | hprefix
    · exact .inl hinit
    · rw [List.length_cons] at h
      have hrest := ih (d := (stepDecoder tb d b).next) (by omega)
      rw [(stepDecoder_lawful tb d b).codeSet] at hrest
      exact .inr hrest

/-- Settles O36: no state has more than four prefixes left. -/
theorem sequencesEndWithinFiveBytes : Obligations.SequencesEndWithinFiveBytes := by
  intro tb d b₁ b₂ b₃ b₄ b₅
  have h : ReachesInit tb d.codeSet d [b₁, b₂, b₃, b₄, b₅] :=
    reachesInit_of_prefixesLeft_lt tb (Nat.lt_succ_of_le (prefixesLeft_le_four d))
  simpa only [ReachesInit, or_false] using h

end Sys2Proof.Machine
end

section
/-! The transition table of Set 1 (R150) and its fake shift (R158). -/

namespace Sys2Proof.Machine

/-! ## A row of a transition table as an operation -/

/-- Where the decoder reads the byte as a class, the class and `DEC.FEED` are the decoder's step (R86, R140). -/
theorem exec_row {s : State} {i : Instr} {b : Byte} {d : DecState} {t : Transition} (hs : s.setupDone = true)
    (hd : s.dec = d) (hread : classifyScan s.tables d b = i) (hstep : stepDecoder s.tables d b = t) :
    exec i s = fedBy t b s ∧ exec (.decFeed b) s = fedBy t b s := by
  subst hd hread hstep
  rw [← feedIsItsByteClass, exec_decFeed, afterSetup, if_pos hs]
  exact ⟨rfl, rfl⟩

/-- An unexpected byte writes `INIT` and raises `SequenceError` with the state before the step (R142, R275). -/
theorem fedBy_unexpected (c : CodeSet) (b : Byte) (s : State) :
    fedBy (unexpected c) b s =
      .next (((s.emitDiag (.sequenceError s.dec b)).setDec (DecState.initOf c)).answer (.fed none)) := by
  rcases applyTransition_spec (unexpected_lawful c) b s with ⟨herror, _⟩ | ⟨_, happly⟩
  · cases herror
  · rw [fedBy, happly]
    rfl

/-- A row with no diagnostic: what the byte is read as, and its transition, give the operation and `DEC.FEED`. -/
theorem feedsTo_of_row {s : State} {i : Instr} {b : Byte} {d d' : DecState} {e : Option KeyEvent}
    (hs : s.setupDone = true) (hd : s.dec = d) (hread : classifyScan s.tables d b = i)
    (hstep : stepDecoder s.tables d b = { next := d', event := e, error := false }) : feedsTo s i b d' e :=
  exec_row hs hd hread hstep

/-- A row with a diagnostic, likewise. -/
theorem feedRejected_of_row {s : State} {i : Instr} {b : Byte} {d : DecState} {c : CodeSet}
    (hs : s.setupDone = true) (hd : s.dec = d) (hread : classifyScan s.tables d b = i)
    (hstep : stepDecoder s.tables d b = unexpected c) : feedRejected s i b (DecState.initOf c) := by
  rw [feedRejected, ← fedBy_unexpected]
  exact exec_row hs hd hread hstep

/-! ## The rows of Set 1 -/

theorem isLow_iff (b : Byte) : isLow b = true ↔ b < 0x80#8 := by
  rw [isLow_eq, decide_eq_true_iff]

/-- Settles O28: state by state, the class tables and the transition table test the same conditions in the same order, so the
tests that fail and the one that holds lead to the row in both. -/
theorem set1BytesDecode : Obligations.Set1BytesDecode := by
  intro s hs
  refine ⟨?initE0, ?initE1, ?initMake, ?initBreak, ?e0Make, ?e0Break, ?e1On1D, ?e1On9D, ?e1Other, ?e1x1DOn45, ?e1x1DOther,
    ?e1x9DOnC5, ?e1x9DOther⟩
  case initE0 | initE1 | e1On1D | e1On9D | e1x1DOn45 | e1x9DOnC5 => exact fun hd => feedsTo_of_row hs hd rfl rfl
  case initMake =>
    intro b hd hE0 hE1 hb
    have hlow := (isLow_iff b).mpr hb
    exact feedsTo_of_row hs hd (((if_neg hE0).trans (if_neg hE1)).trans (if_pos hlow))
      (((if_neg hE0).trans (if_neg hE1)).trans (if_pos hlow))
  case initBreak =>
    intro b hd hE0 hE1 hb
    have hhigh := mt (isLow_iff b).mp hb
    exact feedsTo_of_row hs hd (((if_neg hE0).trans (if_neg hE1)).trans (if_neg hhigh))
      (((if_neg hE0).trans (if_neg hE1)).trans (if_neg hhigh))
  case e0Make =>
    intro b hd hb
    have hlow := (isLow_iff b).mpr hb
    exact feedsTo_of_row hs hd (if_pos hlow) (if_pos hlow)
  case e0Break =>
    intro b hd hb
    have hhigh := mt (isLow_iff b).mp hb
    exact feedsTo_of_row hs hd (if_neg hhigh) (if_neg hhigh)
  case e1Other =>
    exact fun b hd h1D h9D => feedRejected_of_row hs hd ((if_neg h1D).trans (if_neg h9D)) ((if_neg h1D).trans (if_neg h9D))
  case e1x1DOther => exact fun b hd h45 => feedRejected_of_row hs hd (if_neg h45) (if_neg h45)
  case e1x9DOther => exact fun b hd hC5 => feedRejected_of_row hs hd (if_neg hC5) (if_neg hC5)

/-! ## The extended table and the fake shift -/

@[simp] theorem eventOfEntry_zero (make : Bool) : eventOfEntry 0#8 make = none := rfl

theorem eventOfEntry_of_ne_zero {t : Byte} (ht : t ≠ 0#8) (make : Bool) :
    eventOfEntry t make = some { code := t, make := make } := if_neg ht

/-- The constraints of R158 on `SET1_E0_XLAT`. -/
theorem set1E0_of_wf {tb : Tables} (h : tb.wf = true) :
    tableGet tb.set1E0 0x1D#8 ≠ 0#8 ∧ tableGet tb.set1E0 0x2A#8 = 0#8 := by
  simp only [Tables.wf, Bool.and_eq_true, bne_iff_ne, beq_iff_eq] at h
  obtain ⟨⟨h1D, h2A⟩, _⟩ := h
  exact ⟨h1D, h2A⟩

/-- A byte below 0x80 after the prefix E0 gives the event of its entry in `SET1_E0_XLAT`, if the entry is not 0 (R155). -/
theorem decodedEvents_set1_e0Prefixed (tb : Tables) {b : Byte} (hlow : isLow b = true) :
    decodedEvents tb (.set1 .init) [0xE0#8, b] = (eventOfEntry (tableGet tb.set1E0 b) true).toList := by
  have hstep : stepDecoder tb (.set1 .e0) b = complete .set1 (eventOfEntry (tableGet tb.set1E0 b) true) := if_pos hlow
  calc decodedEvents tb (.set1 .init) [0xE0#8, b]
      = decodedEvents tb (.set1 .e0) [b] := decodedEvents_toState rfl
    _ = (eventOfEntry (tableGet tb.set1E0 b) true).toList := by simp [decodedEvents, hstep, complete]

/-- Settles O38: both sequences give the event of their entry, which the constraints make one key for 1D and none for 2A. -/
theorem fakeShiftSuppressed : Obligations.FakeShiftSuppressed := by
  intro tb hwf
  obtain ⟨hkey, hfake⟩ := set1E0_of_wf hwf
  refine ⟨hkey, hfake, ?_, ?_⟩
  · rw [decodedEvents_set1_e0Prefixed tb rfl, eventOfEntry_of_ne_zero hkey, Option.toList_some]
  · rw [decodedEvents_set1_e0Prefixed tb rfl, hfake, eventOfEntry_zero, Option.toList_none]

end Sys2Proof.Machine
end

section
/-! The transition table of Set 2 (R170). -/

namespace Sys2Proof.Machine

/-- In `INIT`, past the prefixes and the two aliases, bit 7 of the byte decides between the key and the error (R176, R177). -/
theorem set2_init_otherByte (tb : Tables) {b : Byte} (hE0 : b ≠ 0xE0#8) (hF0 : b ≠ 0xF0#8) (hE1 : b ≠ 0xE1#8)
    (h83 : b ≠ 0x83#8) (h84 : b ≠ 0x84#8) :
    classifyScan tb (.set2 .init) b = (if isLow b then .s2InitOnMake b else .s2InitOnOther b) ∧
      stepDecoder tb (.set2 .init) b = (if isLow b then emitKey .set2 b true else unexpected .set2) := by
  simp only [classifyScan, classifySet2, stepDecoder, stepSet2, if_neg hE0, if_neg hF0, if_neg hE1, if_neg h83, if_neg h84,
    and_self]

/-- After `F0`, past the two aliases, bit 7 of the byte decides likewise (R180, R181). -/
theorem set2_f0_otherByte (tb : Tables) {b : Byte} (h83 : b ≠ 0x83#8) (h84 : b ≠ 0x84#8) :
    classifyScan tb (.set2 .f0) b = (if isLow b then .s2F0OnBreak b else .s2F0OnOther b) ∧
      stepDecoder tb (.set2 .f0) b = (if isLow b then emitKey .set2 b false else unexpected .set2) := by
  simp only [classifyScan, classifySet2, stepDecoder, stepSet2, if_neg h83, if_neg h84, and_self]

/-- Settles O29: a row for one byte is read off both tables; a row for a range of bytes is the branch that its failed tests and
the one that holds lead to, the same in the class tables and in the transition table. -/
theorem set2BytesDecode : Obligations.Set2BytesDecode := by
  intro s hs
  refine ⟨?initE0, ?initF0, ?initE1, ?initA83, ?initA84, ?initMake, ?initOther, ?f0A83, ?f0A84, ?f0Break, ?f0Other,
    ?e0F0, ?e0Key, ?e0Other, ?e0F0Key, ?e0F0Other, ?e1On14, ?e1OnF0, ?e1Other, ?e1x14On77, ?e1x14Other, ?e1F0On14,
    ?e1F0Other, ?e1F0x14OnF0, ?e1F0x14Other, ?e1F0x14F0On77, ?e1F0x14F0Other⟩
  case initE0 | initF0 | initE1 | initA83 | initA84 | f0A83 | f0A84 | e0F0 | e1On14 | e1OnF0 | e1x14On77 | e1F0On14 |
      e1F0x14OnF0 | e1F0x14F0On77 =>
    exact fun hd => feedsTo_of_row hs hd rfl rfl
  case initMake =>
    intro b hd hE0 hF0 hE1 h83 h84 hb
    have hlow := (isLow_iff b).mpr hb
    obtain ⟨hread, hstep⟩ := set2_init_otherByte s.tables hE0 hF0 hE1 h83 h84
    exact feedsTo_of_row hs hd (hread.trans (if_pos hlow)) (hstep.trans (if_pos hlow))
  case initOther =>
    intro b hd hE0 hF0 hE1 h83 h84 hb
    have hhigh := mt (isLow_iff b).mp hb
    obtain ⟨hread, hstep⟩ := set2_init_otherByte s.tables hE0 hF0 hE1 h83 h84
    exact feedRejected_of_row hs hd (hread.trans (if_neg hhigh)) (hstep.trans (if_neg hhigh))
  case f0Break =>
    intro b hd h83 h84 hb
    have hlow := (isLow_iff b).mpr hb
    obtain ⟨hread, hstep⟩ := set2_f0_otherByte s.tables h83 h84
    exact feedsTo_of_row hs hd (hread.trans (if_pos hlow)) (hstep.trans (if_pos hlow))
  case f0Other =>
    intro b hd h83 h84 hb
    have hhigh := mt (isLow_iff b).mp hb
    obtain ⟨hread, hstep⟩ := set2_f0_otherByte s.tables h83 h84
    exact feedRejected_of_row hs hd (hread.trans (if_neg hhigh)) (hstep.trans (if_neg hhigh))
  case e0Key =>
    intro b hd hF0 hb
    have hlow := (isLow_iff b).mpr hb
    exact feedsTo_of_row hs hd ((if_neg hF0).trans (if_pos hlow)) ((if_neg hF0).trans (if_pos hlow))
  case e0Other =>
    intro b hd hF0 hb
    have hhigh := mt (isLow_iff b).mp hb
    exact feedRejected_of_row hs hd ((if_neg hF0).trans (if_neg hhigh)) ((if_neg hF0).trans (if_neg hhigh))
  case e0F0Key =>
    intro b hd hb
    have hlow := (isLow_iff b).mpr hb
    exact feedsTo_of_row hs hd (if_pos hlow) (if_pos hlow)
  case e0F0Other =>
    intro b hd hb
    have hhigh := mt (isLow_iff b).mp hb
    exact feedRejected_of_row hs hd (if_neg hhigh) (if_neg hhigh)
  case e1Other =>
    exact fun b hd h14 hF0 => feedRejected_of_row hs hd ((if_neg h14).trans (if_neg hF0)) ((if_neg h14).trans (if_neg hF0))
  case e1x14Other | e1F0Other | e1F0x14Other | e1F0x14F0Other =>
    exact fun b hd hne => feedRejected_of_row hs hd (if_neg hne) (if_neg hne)

end Sys2Proof.Machine
end

section
/-! The transition table of Set 3 (R200). -/

namespace Sys2Proof.Machine

/-! ## The remap pairs -/

/-- The constraint of R208: the three `from` values are distinct, and so none of the pairs hides a later one. -/
theorem remap_from_distinct_of_wf {tb : Tables} (h : tb.wf = true) :
    tb.set3Remap.first.1 ≠ tb.set3Remap.second.1 ∧ tb.set3Remap.first.1 ≠ tb.set3Remap.third.1 ∧
      tb.set3Remap.second.1 ≠ tb.set3Remap.third.1 := by
  simp only [Tables.wf, Remap.wf, Bool.and_eq_true, bne_iff_ne] at h
  obtain ⟨_, ⟨⟨⟨⟨h12, h13⟩, h23⟩, _⟩, _⟩, _⟩ := h
  exact ⟨h12, h13, h23⟩

/-- Each of the three `from` values is remapped to its own `to` value (R200). -/
theorem remap_eq_of_wf {tb : Tables} (h : tb.wf = true) (b : Byte) :
    (b = tb.set3Remap.first.1 → remap tb.set3Remap b = some tb.set3Remap.first.2) ∧
      (b = tb.set3Remap.second.1 → remap tb.set3Remap b = some tb.set3Remap.second.2) ∧
      (b = tb.set3Remap.third.1 → remap tb.set3Remap b = some tb.set3Remap.third.2) := by
  obtain ⟨h12, h13, h23⟩ := remap_from_distinct_of_wf h
  refine ⟨?first, ?second, ?third⟩ <;> rintro rfl
  case first => exact if_pos rfl
  case second => exact (if_neg h12.symm).trans (if_pos rfl)
  case third => exact ((if_neg h13.symm).trans (if_neg h23.symm)).trans (if_pos rfl)

/-! ## The two states, on a remapped byte and on any other -/

/-- In `INIT` a remapped byte other than the prefix is the make of its paired code (R202). -/
theorem set3_init_remappedByte {tb : Tables} {b k : Byte} (hF0 : b ≠ 0xF0#8) (hk : remap tb.set3Remap b = some k) :
    classifyScan tb (.set3 .init) b = .s3InitOnRemap b ∧ stepDecoder tb (.set3 .init) b = emitKey .set3 k true := by
  simp [classifyScan, classifySet3, stepDecoder, stepSet3, remapped, hF0, hk]

/-- After `F0` a remapped byte is the break of its paired code (R205). -/
theorem set3_f0_remappedByte {tb : Tables} {b k : Byte} (hk : remap tb.set3Remap b = some k) :
    classifyScan tb (.set3 .f0) b = .s3F0OnRemap b ∧ stepDecoder tb (.set3 .f0) b = emitKey .set3 k false := by
  simp [classifyScan, classifySet3, stepDecoder, stepSet3, remapped, hk]

/-- In `INIT`, past the prefix and the remapped bytes, bit 7 of the byte decides between the key and the error (R203, R204). -/
theorem set3_init_otherByte {tb : Tables} {b : Byte} (hF0 : b ≠ 0xF0#8) (hfrom : tb.set3Remap.hasFrom b = false) :
    classifyScan tb (.set3 .init) b = (if isLow b then .s3InitOnMake b else .s3InitOnOther b) ∧
      stepDecoder tb (.set3 .init) b = (if isLow b then emitKey .set3 b true else unexpected .set3) := by
  simp [classifyScan, classifySet3, stepDecoder, stepSet3, isSome_remap, hF0, hfrom]

/-- After `F0`, past the remapped bytes, bit 7 of the byte decides likewise (R206, R207). -/
theorem set3_f0_otherByte {tb : Tables} {b : Byte} (hfrom : tb.set3Remap.hasFrom b = false) :
    classifyScan tb (.set3 .f0) b = (if isLow b then .s3F0OnBreak b else .s3F0OnOther b) ∧
      stepDecoder tb (.set3 .f0) b = (if isLow b then emitKey .set3 b false else unexpected .set3) := by
  simp [classifyScan, classifySet3, stepDecoder, stepSet3, isSome_remap, hfrom]

/-- Settles O30: the pairs of the remap share one row in each state, `remap_eq_of_wf` giving the code of each; on the other
bytes bit 7 decides, the same in the class tables and in the transition table. -/
theorem set3BytesDecode : Obligations.Set3BytesDecode := by
  intro s hs hwf
  refine ⟨?initF0, ?initRemap, ?initMake, ?initOther, ?f0Remap, ?f0Break, ?f0Other⟩
  case initF0 => exact fun hd => feedsTo_of_row hs hd rfl rfl
  case initRemap =>
    intro b hd hF0
    obtain ⟨hfirst, hsecond, hthird⟩ := remap_eq_of_wf hwf b
    have hrow {k : Byte} (hk : remap s.tables.set3Remap b = some k) :
        feedsTo s (.s3InitOnRemap b) b (.set3 .init) (some { code := k, make := true }) :=
      have ⟨hread, hstep⟩ := set3_init_remappedByte hF0 hk
      feedsTo_of_row hs hd hread hstep
    exact ⟨hrow ∘ hfirst, hrow ∘ hsecond, hrow ∘ hthird⟩
  case initMake =>
    intro b hd hF0 hfrom hb
    have hlow := (isLow_iff b).mpr hb
    obtain ⟨hread, hstep⟩ := set3_init_otherByte hF0 hfrom
    exact feedsTo_of_row hs hd (hread.trans (if_pos hlow)) (hstep.trans (if_pos hlow))
  case initOther =>
    intro b hd hF0 hfrom hb
    have hhigh := mt (isLow_iff b).mp hb
    obtain ⟨hread, hstep⟩ := set3_init_otherByte hF0 hfrom
    exact feedRejected_of_row hs hd (hread.trans (if_neg hhigh)) (hstep.trans (if_neg hhigh))
  case f0Remap =>
    intro b hd
    obtain ⟨hfirst, hsecond, hthird⟩ := remap_eq_of_wf hwf b
    have hrow {k : Byte} (hk : remap s.tables.set3Remap b = some k) :
        feedsTo s (.s3F0OnRemap b) b (.set3 .init) (some { code := k, make := false }) :=
      have ⟨hread, hstep⟩ := set3_f0_remappedByte hk
      feedsTo_of_row hs hd hread hstep
    exact ⟨hrow ∘ hfirst, hrow ∘ hsecond, hrow ∘ hthird⟩
  case f0Break =>
    intro b hd hfrom hb
    have hlow := (isLow_iff b).mpr hb
    obtain ⟨hread, hstep⟩ := set3_f0_otherByte hfrom
    exact feedsTo_of_row hs hd (hread.trans (if_pos hlow)) (hstep.trans (if_pos hlow))
  case f0Other =>
    intro b hd hfrom hb
    have hhigh := mt (isLow_iff b).mp hb
    obtain ⟨hread, hstep⟩ := set3_f0_otherByte hfrom
    exact feedRejected_of_row hs hd (hread.trans (if_neg hhigh)) (hstep.trans (if_neg hhigh))

end Sys2Proof.Machine
end

section
/-! The transition tables of Amiga (R210) and of Apple M0110 (R215). -/

namespace Sys2Proof.Machine

/-! ## The fields of a byte, said with masks and with the order of the numbers (R75) -/

/-- A field of `n` bits from bit `i`, widened again, is the word shifted down by `i` with all but its low `n` bits cleared. -/
theorem setWidth_extractLsb'_eq_and {m : Nat} (x : BitVec m) (i n : Nat) :
    (x.extractLsb' i n).setWidth m = x >>> i &&& (BitVec.allOnes n).setWidth m := by
  ext k hk
  simp [Bool.and_comm]

/-- The Amiga code is the byte with bit 7 cleared. -/
theorem amigaCode_eq (b : Byte) : amigaCode b = b &&& 0x7F#8 :=
  calc amigaCode b
      = b >>> 0 &&& 0x7F#8 := setWidth_extractLsb'_eq_and b 0 7
    _ = b &&& 0x7F#8 := by rw [BitVec.ushiftRight_zero]

/-- The M0110 code is the byte with bits 7 and 0 cleared, shifted down by one. -/
theorem m0110Code_eq (b : Byte) : m0110Code b = (b &&& 0x7E#8) >>> 1 :=
  calc m0110Code b
      = b >>> 1 &&& 0x3F#8 := setWidth_extractLsb'_eq_and b 1 6
    _ = (b &&& 0x7E#8) >>> 1 := (BitVec.ushiftRight_and_distrib b 0x7E#8 1).symm

theorem key7_toNat (b : Byte) : (key7 b).toNat = b.toNat % 128 := by
  rw [key7_eq, BitVec.toNat_setWidth]

theorem makeOfBit7_eq (b : Byte) : makeOfBit7 b = decide (b < 0x80#8) := isLow_eq b

/-! ## Amiga -/

/-- Settles O31: both tables compare the 7-bit code with `AMIGA_MAX_KEY`, and nothing else. -/
theorem amigaBytesDecode : Obligations.AmigaBytesDecode := by
  intro s hs
  refine ⟨?key, ?reject⟩
  case key =>
    intro b hd hle
    have hkey : key7 b ≤ s.tables.amigaMaxKey := BitVec.le_def.mpr ((key7_toNat b).symm ▸ hle)
    rw [← amigaCode_eq, ← makeOfBit7_eq]
    exact feedsTo_of_row hs hd (if_pos hkey) (if_pos hkey)
  case reject =>
    intro b hd hlt
    have hreject : ¬ key7 b ≤ s.tables.amigaMaxKey :=
      BitVec.not_le.mpr (BitVec.lt_def.mpr ((key7_toNat b).symm ▸ hlt))
    exact feedRejected_of_row hs hd (if_neg hreject) (if_neg hreject)

/-! ## Apple M0110 -/

/-- The test every M0110 state makes first: bit 0 of the byte is clear (R216, R220, R222, R225). -/
theorem not_bit0Set_iff (b : Byte) : (!bit0Set b) = true ↔ b.getLsbD 0 = false := by
  rw [Bool.not_eq_true', bit0Set_eq]

/-- A byte whose bit 0 is set passes that test on to the ones below it. -/
theorem not_not_bit0Set {b : Byte} (h : b.getLsbD 0 = true) : ¬ (!bit0Set b) = true :=
  mt (not_bit0Set_iff b).mp (ne_false_of_eq_true h)

/-- Settles O32: in each state bit 0 is tested first, in the class tables as in the transition table; the prefixes 79 and 71 have
it set and are read off both, and past them a byte is a key, or an error after 71. -/
theorem m0110BytesDecode : Obligations.M0110BytesDecode := by
  intro s hs
  refine ⟨?initBad0, ?init79, ?init71, ?initKey, ?p79Bad0, ?p79Key, ?p71Bad0, ?p71On79, ?p71Other, ?p71x79Bad0, ?p71x79Key⟩
  case initBad0 | p79Bad0 | p71Bad0 | p71x79Bad0 =>
    intro b hd h0
    have hbad := (not_bit0Set_iff b).mpr h0
    exact feedRejected_of_row hs hd (if_pos hbad) (if_pos hbad)
  case init79 | init71 | p71On79 => exact fun hd => feedsTo_of_row hs hd rfl rfl
  case initKey =>
    intro b hd h0 h79 h71
    have hgood := not_not_bit0Set h0
    rw [← m0110Code_eq, ← makeOfBit7_eq]
    exact feedsTo_of_row hs hd (((if_neg hgood).trans (if_neg h79)).trans (if_neg h71))
      (((if_neg hgood).trans (if_neg h79)).trans (if_neg h71))
  case p79Key | p71x79Key =>
    intro b hd h0
    have hgood := not_not_bit0Set h0
    rw [← makeOfBit7_eq]
    exact feedsTo_of_row hs hd (if_neg hgood) (if_neg hgood)
  case p71Other =>
    intro b hd h0 h79
    have hgood := not_not_bit0Set h0
    exact feedRejected_of_row hs hd ((if_neg hgood).trans (if_neg h79)) ((if_neg hgood).trans (if_neg h79))

end Sys2Proof.Machine
end

section
/-! `TASK.ITER` with no word scheduled inside it (R235 to R239), and the events the bytes held still promise (R241). -/

namespace Sys2Proof.Machine

/-! ## The iteration, undisturbed -/

/-- With no word scheduled the boundary before the delivery is not seen: an event is appended to `hid`, or nothing happens
(R236). -/
theorem deliverEvent_undisturbed (e : Option KeyEvent) {s : State} (hp : s.env.preempts = []) :
    deliverEvent e s = match e with
      | none => s
      | some ev => s.emitHid ev := by
  cases e with
  | none => rfl
  | some ev => rw [deliverEvent, preempt_undisturbed s hp]

@[simp] theorem feed_env (b : Byte) (s : State) : (feed b s).env = s.env := by rw [feed_eq]

/-- With no word scheduled a drained byte is its release, its feeding and the delivery (R236). -/
theorem drain_eq_undisturbed {s : State} {v : Byte} (hp : s.env.preempts = []) (nonempty : s.rb.head ≠ s.rb.tail)
    (oldest : Memory.read s.rb.buf s.rb.tail.toNat = some v) :
    drain s = deliverEvent (stepDecoder s.tables s.dec v).event (feed v (s.setTail (s.rb.tail + 1#5))) := by
  have hreleased : preempt (s.setTail (s.rb.tail + 1#5)) = s.setTail (s.rb.tail + 1#5) := preempt_undisturbed _ hp
  rw [drain_eq s v nonempty oldest, preempt_undisturbed s hp, preempt_undisturbed s hp, preempt_undisturbed s hp,
    nextIndex, hreleased]

/-- Draining schedules nothing (R10). -/
theorem drain_env_undisturbed {s : State} (hp : s.env.preempts = []) : (drain s).env = s.env := by
  obtain ⟨_, _, _, _, _, hdrain⟩ := drain_undisturbed hp
  rw [hdrain]

/-- The iteration with the sink ready is the call of `HID.ready`, the draining and the tick (R235, R236). -/
theorem exec_taskIter_ready_undisturbed (now : Nat) {s : State} (hs : s.setupDone = true) (hp : s.env.preempts = []) :
    exec (.taskIter now true) s = .next (((drain (s.ask .hidReady)).ask (.onTick now)).answer .none) := by
  have hasked : preempt (s.ask .hidReady) = s.ask .hidReady := preempt_undisturbed _ hp
  have hdrained : preempt (drain (s.ask .hidReady)) = drain (s.ask .hidReady) :=
    preempt_undisturbed _ (by rw [drain_env_undisturbed (s := s.ask .hidReady) hp]; exact hp)
  rw [exec_taskIter now true s hs, taskIterBody_ready, hasked, hdrained]

/-- Settles O39: the sink not ready, the ring empty, and a byte drained. -/
theorem taskIterUndisturbed : Obligations.TaskIterUndisturbed := by
  intro s now hs hp
  refine ⟨?notReady, fun empty => ?empty, fun v nonempty oldest => ?drained⟩
  case notReady =>
    rw [exec_taskIter now false s hs, taskIterBody_not_ready, preempt_undisturbed (s.ask .hidReady) hp]
  case empty => rw [exec_taskIter_ready_undisturbed now hs hp, drain_empty (s := s.ask .hidReady) empty]
  case drained =>
    have hdrain := drain_eq_undisturbed (s := s.ask .hidReady) hp nonempty oldest
    rw [deliverEvent_undisturbed _ (by rw [feed_env]; exact hp)] at hdrain
    rw [exec_taskIter_ready_undisturbed now hs hp, hdrain, ask_tables, ask_dec, ask_rb]
    cases (stepDecoder s.tables s.dec v).event with
    | none => rfl
    | some ev => rfl

/-! ## The promised events (R241) -/

/-- The events of the first bytes do not depend on the bytes after them (R241). -/
theorem decodedEvents_prefix (tb : Tables) (d : DecState) (l m : List Byte) :
    decodedEvents tb d l <+: decodedEvents tb d (l ++ m) := by
  induction l generalizing d with
  | nil => exact List.nil_prefix
  | cons b rest ih => exact (List.prefix_append_right_inj _).mpr (ih _)

/-- A state whose ring, decoder and `hid` are as they were promises the same events. -/
theorem promisedEvents_of_unchanged {s t : State} (tables : t.tables = s.tables) (rb : t.rb = s.rb) (dec : t.dec = s.dec)
    (hid : t.out.hid = s.out.hid) : promisedEvents t = promisedEvents s := by
  rw [promisedEvents, promisedEvents, held_eq, held_eq, tables, rb, dec, hid]

/-- Feeding the oldest byte held and delivering its event turns a promised event into a delivered one (R239, R241). -/
theorem promisedEvents_of_drained {s t : State} {v : Byte} (tables : t.tables = s.tables) (taken : held s = v :: held t)
    (dec : t.dec = (stepDecoder s.tables s.dec v).next)
    (hid : t.out.hid = s.out.hid ++ (stepDecoder s.tables s.dec v).event.toList) :
    promisedEvents t = promisedEvents s := by
  rw [promisedEvents, promisedEvents, taken, decodedEvents, tables, dec, hid, List.append_assoc]

/-- Bytes that come to be held after the others only append to what is promised (R241). -/
theorem promisedEvents_prefix_of_held {s t : State} {put : List Byte} (tables : t.tables = s.tables) (dec : t.dec = s.dec)
    (hid : t.out.hid = s.out.hid) (appended : held t = held s ++ put) : promisedEvents s <+: promisedEvents t := by
  rw [promisedEvents, promisedEvents, tables, dec, hid, appended]
  exact (List.prefix_append_right_inj _).mpr (decodedEvents_prefix _ _ _ _)

theorem liveWritten_iff (s : State) : liveWritten s = true ↔ LiveWritten s.rb := by
  simp [liveWritten, LiveWritten, rbCount, liveSlot]

/-- Where the live slots are written and there is one, the slot at `rb.tail` holds a byte (R28). -/
theorem LiveWritten.oldest {r : Ring} (live : LiveWritten r) (nonempty : r.head ≠ r.tail) :
    ∃ v, Memory.read r.buf r.tail.toNat = some v := by
  have hpos : 0 < (r.head - r.tail).toNat := by rw [← count_release nonempty]; exact Nat.succ_pos _
  have holdest := live 0 hpos
  rw [BitVec.add_zero] at holdest
  exact Option.isSome_iff_exists.mp holdest

/-- With no word scheduled an iteration moves `rb.tail` at most, and leaves the tables alone (R22, R61). -/
theorem taskIterBody_rb_tables (now : Nat) (ready : Bool) {s : State} (hp : s.env.preempts = []) :
    (taskIterBody now ready s).rb = { s.rb with tail := (taskIterBody now ready s).rb.tail } ∧
      (taskIterBody now ready s).tables = s.tables := by
  obtain ⟨_, _, _, _, _, hbody⟩ := taskIterBody_undisturbed now ready hp
  rw [hbody]
  exact ⟨rfl, rfl⟩

/-- With no word scheduled an iteration keeps the promise: it changes nothing of it, or drains the oldest byte (R239, R241). -/
theorem taskIterBody_promisedEvents (now : Nat) (ready : Bool) {s : State} (hp : s.env.preempts = [])
    (live : LiveWritten s.rb) : promisedEvents (taskIterBody now ready s) = promisedEvents s := by
  obtain ⟨hrb, htables⟩ := taskIterBody_rb_tables now ready hp
  have hasked : preempt (s.ask .hidReady) = s.ask .hidReady := preempt_undisturbed _ hp
  cases ready with
  | false =>
    obtain ⟨htail, hdec, hhid⟩ := taskIter_not_ready now s
    exact promisedEvents_of_unchanged htables (by rw [hrb, htail]) hdec hhid
  | true =>
    by_cases empty : s.rb.head = s.rb.tail
    · obtain ⟨htail, hdec, hhid⟩ := taskIter_empty now (s := s) (by rw [hasked]; exact empty)
      exact promisedEvents_of_unchanged htables (by rw [hrb, htail]) hdec hhid
    · obtain ⟨v, oldest⟩ := live.oldest empty
      obtain ⟨hne, hread⟩ := taskIter_takes_oldest empty oldest
      obtain ⟨htail, hdec, hhid⟩ := taskIter_drained now hne (takenByte_eq hne hread)
      refine promisedEvents_of_drained htables ?_ hdec hhid
      rw [held_eq, held_eq, hrb, htail]
      exact ringHeld_release s.rb v empty oldest

/-- Settles O41: `taskIterBody_promisedEvents` for the iteration; a put leaves the bytes held as they are or appends one. -/
theorem taskIterKeepsPromisedEvents : Obligations.TaskIterKeepsPromisedEvents := by
  refine ⟨fun s t now ready hp hlive h => ?iterated, fun s t b h => ?put⟩
  case iterated =>
    rw [afterSetup_answer h]
    exact taskIterBody_promisedEvents now ready hp ((liveWritten_iff s).mp hlive)
  case put =>
    obtain ⟨put, appended, _⟩ := ringAdds_held [b] s.rb
    have frame := ringPut_frame b s
    rw [afterSetup_answer h]
    refine promisedEvents_prefix_of_held (put := put) frame.tables frame.dec frame.hid ?_
    rw [held_eq, held_eq, answer_rb, ringPut_rb]
    exact appended

end Sys2Proof.Machine
end

section
/-! The frame classes are the operations `RX.AT` and `RX.XT` on their words (R76, R77), and what a bad frame does (R270 to
R275). -/

namespace Sys2Proof.Machine

/-! ## The class of a word -/

theorem classifyAt_badStart {fr : Framing} {w : AtFrame} (a : Action) (hstart : atStartBit w ≠ fr.atStart) :
    classifyAt fr w a = .rxAtBadStart w := by
  simp [classifyAt, hstart]

theorem classifyAt_badStop {fr : Framing} {w : AtFrame} (a : Action) (hstart : atStartBit w = fr.atStart)
    (hstop : atStopBit w ≠ fr.atStop) : classifyAt fr w a = .rxAtBadStop w := by
  simp [classifyAt, hstart, hstop]

theorem classifyAt_badParity {fr : Framing} {w : AtFrame} (a : Action) (hstart : atStartBit w = fr.atStart)
    (hstop : atStopBit w = fr.atStop) (hparity : atParityBit w ≠ par (atData w)) :
    classifyAt fr w a = .rxAtBadParity w := by
  simp [classifyAt, hstart, hstop, hparity]

theorem classifyAt_valid {fr : Framing} {w : AtFrame} (a : Action) (hstart : atStartBit w = fr.atStart)
    (hstop : atStopBit w = fr.atStop) (hparity : atParityBit w = par (atData w)) :
    classifyAt fr w a = .rxAtOk w a := by
  simp [classifyAt, hstart, hstop, hparity]

theorem classifyXt_badStart {fr : Framing} {w : XtFrame} (a : Action) (hstart : xtStartBit w ≠ fr.xtStart) :
    classifyXt fr w a = .rxXtBadStart w := by
  simp [classifyXt, hstart]

theorem classifyXt_valid {fr : Framing} {w : XtFrame} (a : Action) (hstart : xtStartBit w = fr.xtStart) :
    classifyXt fr w a = .rxXtOk w a := by
  simp [classifyXt, hstart]

/-! ## A frame class is its operation -/

/-- On a word of its class a frame class asks for the protocol alone (R76, R77). -/
theorem frameClass_of_class {p : Proto} {c : Bool} {s : State} {k : Result} (hc : c = true) :
    frameClass p c s k = underProto p s k := by
  rw [frameClass, if_pos hc]

/-- `RX.AT` of a word is the class of the word: the class tables and the checks of R104 test the same fields in the same
order. -/
theorem exec_classifyAt (w : AtFrame) (a : Action) (s : State) :
    exec (classifyAt s.framing w a) s = exec (.rxAt w a) s := by
  have hrx : exec (.rxAt w a) s = underProto .atPs2 s (ended (rxAtBody w a s)) := rfl
  by_cases hstart : atStartBit w = s.framing.atStart
  · by_cases hstop : atStopBit w = s.framing.atStop
    · by_cases hparity : atParityBit w = par (atData w)
      · rw [hrx, rxAtBody, decodeAt_valid hstart hstop hparity, classifyAt_valid a hstart hstop hparity]
        exact frameClass_of_class (by simp [hstart, hstop, hparity])
      · rw [hrx, rxAtBody, decodeAt_badParity hstart hstop hparity, classifyAt_badParity a hstart hstop hparity]
        exact frameClass_of_class (by simp [hstart, hstop, hparity])
    · rw [hrx, rxAtBody, decodeAt_badStop hstart hstop, classifyAt_badStop a hstart hstop]
      exact frameClass_of_class (by simp [hstart, hstop])
  · rw [hrx, rxAtBody, decodeAt_badStart hstart, classifyAt_badStart a hstart]
    exact frameClass_of_class (bne_iff_ne.mpr hstart)

/-- `RX.XT` of a word is the class of the word (R77, R107). -/
theorem exec_classifyXt (w : XtFrame) (a : Action) (s : State) :
    exec (classifyXt s.framing w a) s = exec (.rxXt w a) s := by
  have hrx : exec (.rxXt w a) s = underProto .xt s (ended (rxXtBody w a s)) := rfl
  by_cases hstart : xtStartBit w = s.framing.xtStart
  · rw [hrx, rxXtBody, decodeXt_valid hstart, classifyXt_valid a hstart]
    exact frameClass_of_class (beq_iff_eq.mpr hstart)
  · rw [hrx, rxXtBody, decodeXt_badStart hstart, classifyXt_badStart a hstart]
    exact frameClass_of_class (bne_iff_ne.mpr hstart)

/-- Settles O16. -/
theorem receiveIsItsFrameClass : Obligations.ReceiveIsItsFrameClass :=
  ⟨fun s w a => (exec_classifyAt w a s).symm, fun s w a => (exec_classifyXt w a s).symm⟩

/-! ## A word that does not validate -/

/-- Settles O52: the diagnostic, then the reaction of R273 to R277. -/
theorem raiseRecordsThenReacts : Obligations.RaiseRecordsThenReacts :=
  fun _ _ _ _ => ⟨rfl, rfl, rfl, rfl, rfl, rfl, rfl, rfl, rfl, rfl, rfl, rfl⟩

/-- A word that fails a check is recorded, by `RX.AT` and by the class it falls in (R76, R104). -/
theorem exec_rxAt_rejected {s : State} {w : AtFrame} {a : Action} {k : FrameKind} {i : Instr} (hs : s.setupDone = true)
    (hp : s.proto = .atPs2) (hcheck : decodeAt s.framing w = .error k) (hread : classifyAt s.framing w a = i) :
    exec (.rxAt w a) s = .next ((raise (.frameError k (.at11 w)) s).answer .none) ∧
      exec i s = .next ((raise (.frameError k (.at11 w)) s).answer .none) := by
  have hrx : exec (.rxAt w a) s = .next ((raise (.frameError k (.at11 w)) s).answer .none) := by
    rw [exec_rxAt w a s hs hp, rxAtBody, hcheck]
  exact ⟨hrx, by rw [← hread, exec_classifyAt, hrx]⟩

/-- As `exec_rxAt_rejected`, for an XT word (R77, R107). -/
theorem exec_rxXt_rejected {s : State} {w : XtFrame} {a : Action} {k : FrameKind} {i : Instr} (hs : s.setupDone = true)
    (hp : s.proto = .xt) (hcheck : decodeXt s.framing w = .error k) (hread : classifyXt s.framing w a = i) :
    exec (.rxXt w a) s = .next ((raise (.frameError k (.xt9 w)) s).answer .none) ∧
      exec i s = .next ((raise (.frameError k (.xt9 w)) s).answer .none) := by
  have hrx : exec (.rxXt w a) s = .next ((raise (.frameError k (.xt9 w)) s).answer .none) := by
    rw [exec_rxXt w a s hs hp, rxXtBody, hcheck]
  exact ⟨hrx, by rw [← hread, exec_classifyXt, hrx]⟩

/-- Settles O11: a bad start or stop bit is found by the check and by the class, and its reaction is that of R273. -/
theorem badStartAndBadStopReaction : Obligations.BadStartAndBadStopReaction :=
  ⟨fun _ _ a hs hp hstart => exec_rxAt_rejected hs hp (decodeAt_badStart hstart) (classifyAt_badStart a hstart),
    fun _ _ a hs hp hstart hstop =>
      exec_rxAt_rejected hs hp (decodeAt_badStop hstart hstop) (classifyAt_badStop a hstart hstop),
    fun _ _ a hs hp hstart => exec_rxXt_rejected hs hp (decodeXt_badStart hstart) (classifyXt_badStart a hstart)⟩

/-- A put records nothing, or the overflow (R124, R276). -/
theorem ringPut_out_diag (b : Byte) (s : State) :
    (ringPut b s).1.out.diag = s.out.diag ∨ (ringPut b s).1.out.diag = s.out.diag ++ [.bufferOverflow b] := by
  cases h : rbFull s with
  | false => exact .inl (by rw [ringPut_room b s h]; rfl)
  | true => exact .inr (by rw [ringPut_full b s h]; rfl)

/-- An XT word leads to at most one diagnostic: a bad start bit, or an overflow (R107, R108). -/
theorem rxXtBody_out_diag (w : XtFrame) (a : Action) (s : State) :
    (rxXtBody w a s).out.diag = s.out.diag ∨
      (rxXtBody w a s).out.diag = s.out.diag ++ [.frameError .badStart (.xt9 w)] ∨
      (rxXtBody w a s).out.diag = s.out.diag ++ [.bufferOverflow (xtData w)] := by
  by_cases hstart : xtStartBit w = s.framing.xtStart
  · rw [rxXtBody, decodeXt_valid hstart]
    cases a with
    | sendCommand c => exact .inl rfl
    | enqueueForDecoding => exact (ringPut_out_diag (xtData w) (s.ask (.onByte (xtData w)))).imp_right .inr
    | none => exact .inl rfl
  · rw [rxXtBody, decodeXt_badStart hstart]
    exact .inr (.inl rfl)

/-- Settles O12: a bad parity bit as in O11, and the diagnostics an XT word can lead to. -/
theorem badParityReaction : Obligations.BadParityReaction := by
  refine ⟨fun s w a hs hp hstart hstop hparity => ?_, fun s t w a h => ?_, rfl⟩
  · exact exec_rxAt_rejected hs hp (decodeAt_badParity hstart hstop hparity) (classifyAt_badParity a hstart hstop hparity)
  · rw [underProto_ended h]
    rcases rxXtBody_out_diag w a s with hnone | hstart | hfull
    · exact .inl hnone
    · exact .inr ⟨_, hstart, nofun⟩
    · exact .inr ⟨_, hfull, nofun⟩

/-! ## The answer of the session under XT, and the operations of the other protocol -/

/-- Settles O15: `SendCommand` routes a validated XT byte as `None` does. -/
theorem xtCommandAnswerCountsAsNone : Obligations.XtCommandAnswerCountsAsNone := by
  intro s w c hs hp hstart
  have hcommand : routeXt (xtData w) (.sendCommand c) s = s.ask (.onByte (xtData w)) := rfl
  have hnone : routeXt (xtData w) .none s = s.ask (.onByte (xtData w)) := rfl
  obtain ⟨hrx, hclass⟩ := exec_rxXt_valid hs hp hstart hcommand
  exact ⟨_, hrx, hclass, (exec_rxXt_valid hs hp hstart hnone).1, rfl, rfl⟩

/-- After `SETUP` an operation of one protocol is refused under the other (log entry 14). -/
theorem underProto_refused {p q : Proto} {s : State} (k : Result) (hs : s.setupDone = true) (hq : s.proto = q)
    (hne : q ≠ p) : underProto p s k = .refused .wrongProtocol := by
  rw [underProto, afterSetup, if_pos hs, if_neg (hq ▸ hne)]

/-- Settles O17: each of these operations is `underProto` of its own protocol. -/
theorem frameOperationsOnlyUnderTheirProtocol : Obligations.FrameOperationsOnlyUnderTheirProtocol := by
  intro s hs
  refine ⟨fun hp w a => ?_, fun hp w a => ?_⟩
  · have hrefused (k : Result) : underProto .atPs2 s k = .refused .wrongProtocol := underProto_refused k hs hp nofun
    exact ⟨hrefused _, hrefused _, hrefused _, hrefused _, hrefused _⟩
  · have hrefused (k : Result) : underProto .xt s k = .refused .wrongProtocol := underProto_refused k hs hp nofun
    exact ⟨hrefused _, hrefused _, hrefused _⟩

end Sys2Proof.Machine
end

section
/-! The events that start no operation (R280, R285), `SETUP` (R300), and that nothing else runs before it (R302). -/

namespace Sys2Proof.Machine

/-! ## What an event comes to -/

theorem fetch_cons {s : State} {e : Event} {rest : List Event} (h : s.env.agenda = e :: rest) :
    fetch s = runEvent e (s.setAgenda rest) := by
  simp only [fetch, h]

theorem step_of_idle {s t : State} (h : fetch s = .idle t) : step s = .next t := by
  simp only [step, h]

theorem step_of_stop {s : State} {r : Refusal} (h : fetch s = .stop r) : step s = .refused r := by
  simp only [step, h]

/-- While the producer is masked, or no word waits, the interrupt starts nothing (R280). -/
theorem takeInterrupt_idle {s : State} (h : s.irqEn = false ∨ s.env.rcv = []) : takeInterrupt s = .idle s := by
  rcases h with hmasked | hnone
  · simp [takeInterrupt, hmasked]
  · simp [takeInterrupt, hnone]

theorem startOperation_wrongContext {agent : Agent} {e : Encoded} {s : State} {i : Instr}
    (hd : decode s.context e = .ok i) (ha : i.agent ≠ agent) : startOperation agent e s = .stop .wrongContext := by
  simp [startOperation, hd, ha]

theorem startOperation_masked {e : Encoded} {s : State} {i : Instr} (hd : decode s.context e = .ok i)
    (ha : i.agent = .producer) (hi : s.irqEn = false) : startOperation .producer e s = .stop .producerMasked := by
  simp [startOperation, hd, ha, hi]

/-- The codes 5, 6 and 7 name no code set (R33, U8). -/
theorem codeSetOfCode_of_le {c : BitVec 3} (h : 5#3 ≤ c) : codeSetOfCode c = none := by
  revert c
  decide

/-- `SETUP` with such a code stops, whoever starts it (R300, U8). -/
theorem startOperation_badCodeSet (agent : Agent) (p : BitVec 1) {c : BitVec 3} (s : State) (h : 5#3 ≤ c) :
    startOperation agent (.call (.setup p c)) s = .stop (.badCodeSet c) := by
  simp [startOperation, decode, decodeCall, codeSetOfCode_of_le h]

theorem step_setup_badCodeSet {agent : Agent} {p : BitVec 1} {c : BitVec 3} {s : State} {rest : List Event}
    (h : s.env.agenda = .started agent (.setup p c) :: rest) (hc : 5#3 ≤ c) : step s = .refused (.badCodeSet c) :=
  step_of_stop ((fetch_cons h).trans (startOperation_badCodeSet agent p _ hc))

/-- Settles O10, event by event. -/
theorem eventsThatStartNoOperation : Obligations.EventsThatStartNoOperation := by
  intro s
  refine ⟨fun h => ?none, fun rest h hidle => ?interrupt, fun rest f h => ?deliver, fun rest v h => ?setIrq,
    fun rest agent c i h hd ha => ?wrongContext, fun rest c i h hd ha hmasked => ?masked,
    fun rest agent p c h hc => step_setup_badCodeSet h hc⟩
  case none => exact step_of_idle (by simp only [fetch, h])
  case interrupt => exact step_of_idle ((fetch_cons h).trans (takeInterrupt_idle (s := s.setAgenda rest) hidle))
  case deliver => exact step_of_idle (fetch_cons h)
  case setIrq => exact step_of_idle (fetch_cons h)
  case wrongContext =>
    exact step_of_stop ((fetch_cons h).trans (startOperation_wrongContext (s := s.setAgenda rest) hd ha))
  case masked =>
    exact step_of_stop ((fetch_cons h).trans (startOperation_masked (s := s.setAgenda rest) hd ha hmasked))

/-! ## `SETUP` -/

/-- Settles O42: the state `SETUP` leaves, written out, and the refusal of the codes that name no code set. -/
theorem setupOverwritesAllButTheSlots : Obligations.SetupOverwritesAllButTheSlots :=
  ⟨fun _ _ c => ⟨rfl, initOf_codeSet c⟩, fun _ _ _ _ hc h => step_setup_badCodeSet h hc⟩

theorem afterSetup_refused {s : State} (hs : s.setupDone = false) (k : Result) :
    afterSetup s k = .refused .beforeSetup := by
  simp [afterSetup, hs]

/-- Settles O43: every operation but `SETUP` is `afterSetup` of something. -/
theorem nothingButSetupRunsBeforeSetup : Obligations.NothingButSetupRunsBeforeSetup := by
  intro s i hs hne
  cases i with
  | setup p c => exact absurd rfl (hne p c)
  | _ => exact afterSetup_refused hs _

end Sys2Proof.Machine
end

section
/-! What the decoder reads is well formed and of the class tables its context selects (R76, R77, R86); sample words. -/

namespace Sys2Proof

/-- The operand lies in the operation's class, and the context is one that selects the class (R76, R77, R86). -/
def Fits (ctx : DecodeContext) (i : Instr) : Prop :=
  i.wf ctx.framing ctx.tables = true ∧ selects ctx i = true

/-! ## The class a frame word falls in -/

theorem classifyAt_fits {ctx : DecodeContext} (hp : ctx.proto = .atPs2) (w : AtFrame) (a : Action) :
    Fits ctx (classifyAt ctx.framing w a) := by
  unfold classifyAt
  split_ifs with hstart hstop hparity <;> refine ⟨?_, beq_iff_eq.mpr hp⟩ <;>
    simp_all [Instr.wf, atBits, parityOdd_eq, atStartBit, atStopBit, atParityBit, atData_eq]

theorem classifyXt_fits {ctx : DecodeContext} (hp : ctx.proto = .xt) (w : XtFrame) (a : Action) :
    Fits ctx (classifyXt ctx.framing w a) := by
  unfold classifyXt
  split_ifs with hstart <;> refine ⟨?_, beq_iff_eq.mpr hp⟩ <;> simp_all [Instr.wf, xtStartBit]

/-! ## The class a byte falls in

Each test of a table either holds, and is the condition of its class, or fails, and is excluded in the condition of every
later one; the context's decoder state is the one whose table was read. -/

theorem classifySet1_fits {ctx : DecodeContext} {st : S1State} (hd : ctx.dec = .set1 st) (b : Byte) :
    Fits ctx (classifySet1 st b) := by
  cases st <;> simp only [classifySet1] <;> split_ifs <;> refine ⟨?_, beq_iff_eq.mpr hd⟩ <;>
    simp_all [Instr.wf, isLow_eq]

theorem classifySet2_fits {ctx : DecodeContext} {st : S2State} (hd : ctx.dec = .set2 st) (b : Byte) :
    Fits ctx (classifySet2 st b) := by
  cases st <;> simp only [classifySet2] <;> split_ifs <;> refine ⟨?_, beq_iff_eq.mpr hd⟩ <;>
    simp_all [Instr.wf, isLow_eq]

theorem classifySet3_fits {ctx : DecodeContext} {st : S3State} (hd : ctx.dec = .set3 st) (b : Byte) :
    Fits ctx (classifySet3 ctx.tables st b) := by
  cases st <;> simp only [classifySet3] <;> split_ifs <;> refine ⟨?_, beq_iff_eq.mpr hd⟩ <;>
    simp_all [Instr.wf, isLow_eq, isSome_remap]

theorem classifyAmiga_fits {ctx : DecodeContext} {st : AmigaState} (hd : ctx.dec = .amiga st) (b : Byte) :
    Fits ctx (classifyAmiga ctx.tables b) := by
  cases st
  unfold classifyAmiga
  split_ifs with hkey <;> refine ⟨?_, beq_iff_eq.mpr hd⟩
  · exact decide_eq_true (key7_eq b ▸ hkey)
  · exact decide_eq_true (key7_eq b ▸ BitVec.not_le.mp hkey)

theorem classifyM0110_fits {ctx : DecodeContext} {st : M0State} (hd : ctx.dec = .m0110 st) (b : Byte) :
    Fits ctx (classifyM0110 st b) := by
  cases st <;> simp only [classifyM0110] <;> split_ifs <;> refine ⟨?_, beq_iff_eq.mpr hd⟩ <;>
    simp_all [Instr.wf, bit0Set_eq]

theorem classifyScan_fits (ctx : DecodeContext) (b : Byte) : Fits ctx (classifyScan ctx.tables ctx.dec b) := by
  cases hd : ctx.dec with
  | set1 st => exact classifySet1_fits hd b
  | set2 st => exact classifySet2_fits hd b
  | set3 st => exact classifySet3_fits hd b
  | amiga st => exact classifyAmiga_fits hd b
  | m0110 st => exact classifyM0110_fits hd b

/-- A call has no operand class, and is read the same in every context (R85). -/
theorem decodeCall_fits (ctx : DecodeContext) {c : Call} {i : Instr} (h : decodeCall c = .ok i) : Fits ctx i := by
  cases c with
  | setup p k =>
    simp only [decodeCall] at h
    split at h <;> cases h
    exact ⟨rfl, rfl⟩
  | rxAt | rxXt | rbIsEmpty | rbIsFull | rbPut | rbGet | rbReset | decFeed | taskIter =>
    cases h
    exact ⟨rfl, rfl⟩

/-- Settles O2, by what reaches the block: a frame word, a scan-code byte or a call. -/
theorem decodedOperationIsWellFormed : Obligations.DecodedOperationIsWellFormed := by
  intro ctx e i h
  cases e with
  | frame raw a =>
    cases hp : ctx.proto with
    | atPs2 =>
      simp only [decode, hp, Except.ok.injEq] at h
      exact h ▸ classifyAt_fits hp _ a
    | xt =>
      simp only [decode, hp, Except.ok.injEq] at h
      exact h ▸ classifyXt_fits hp _ a
  | scan b =>
    simp only [decode, Except.ok.injEq] at h
    exact h ▸ classifyScan_fits ctx b
  | call c => exact decodeCall_fits ctx h

/-- Settles O4: sample words of the vectors, computed. -/
theorem sampleWordsDecode : Obligations.SampleWordsDecode :=
  fun _ _ => ⟨rfl, rfl, rfl, rfl, rfl, rfl, fun _ _ => ⟨rfl, rfl, rfl, rfl, rfl⟩⟩

end Sys2Proof
end

section
/-! The frame words of a byte (R88) and the checks (R104, R107). -/

namespace Sys2Proof.Machine

/-! ## The fields of the frame words -/

theorem getLsbD_atWord (fr : Framing) (b : Byte) (k : Nat) :
    (atWord fr b).getLsbD k =
      if k < 1 then (BitVec.ofBool fr.atStart).getLsbD k
      else if k - 1 < 8 then b.getLsbD (k - 1)
      else if k - 1 - 8 < 1 then (BitVec.ofBool (par b)).getLsbD (k - 1 - 8)
      else (BitVec.ofBool fr.atStop).getLsbD (k - 1 - 8 - 1) := by
  change BitVec.getLsbD (BitVec.ofBool fr.atStop ++ BitVec.ofBool (par b) ++ b ++ BitVec.ofBool fr.atStart) k = _
  simp only [BitVec.getLsbD_append]

theorem getLsbD_xtWord (fr : Framing) (b : Byte) (k : Nat) :
    (xtWord fr b).getLsbD k = if k < 1 then (BitVec.ofBool fr.xtStart).getLsbD k else b.getLsbD (k - 1) := by
  change BitVec.getLsbD (b ++ BitVec.ofBool fr.xtStart) k = _
  simp only [BitVec.getLsbD_append]

theorem atStartBit_atWord (fr : Framing) (b : Byte) : atStartBit (atWord fr b) = fr.atStart := by
  rw [atStartBit, getLsbD_atWord]
  simp

theorem atData_atWord (fr : Framing) (b : Byte) : atData (atWord fr b) = b := by
  ext k hk
  simp [atData, getLsbD_atWord, hk]

theorem atParityBit_atWord (fr : Framing) (b : Byte) : atParityBit (atWord fr b) = par b := by
  rw [atParityBit, getLsbD_atWord]
  simp

theorem atStopBit_atWord (fr : Framing) (b : Byte) : atStopBit (atWord fr b) = fr.atStop := by
  rw [atStopBit, getLsbD_atWord]
  simp

theorem xtStartBit_xtWord (fr : Framing) (b : Byte) : xtStartBit (xtWord fr b) = fr.xtStart := by
  rw [xtStartBit, getLsbD_xtWord]
  simp

theorem xtData_xtWord (fr : Framing) (b : Byte) : xtData (xtWord fr b) = b := by
  ext k hk
  simp [xtData, getLsbD_xtWord, hk]

/-! ## Bit 9 flipped: the parity bit alone changes (R71) -/

theorem atStartBit_flipParity (w : AtFrame) : atStartBit (w ^^^ 0x200#11) = atStartBit w := by
  simp [atStartBit]

theorem atStopBit_flipParity (w : AtFrame) : atStopBit (w ^^^ 0x200#11) = atStopBit w := by
  simp [atStopBit]

theorem atParityBit_flipParity (w : AtFrame) : atParityBit (w ^^^ 0x200#11) = !atParityBit w := by
  simp [atParityBit]

theorem atData_flipParity (w : AtFrame) : atData (w ^^^ 0x200#11) = atData w := by
  rw [atData, BitVec.extractLsb'_xor]
  exact BitVec.xor_zero

/-- Settles O7: the fields of the words pass the checks, and a flipped parity bit fails the last one. -/
theorem goodFrameWordsValidate : Obligations.GoodFrameWordsValidate := by
  intro fr b
  refine ⟨?good, ?flipped, ?xt⟩
  case good =>
    rw [decodeAt_valid (atStartBit_atWord fr b) (atStopBit_atWord fr b) (by rw [atParityBit_atWord, atData_atWord]),
      atData_atWord]
  case flipped =>
    refine decodeAt_badParity ?_ ?_ ?_
    · rw [atStartBit_flipParity, atStartBit_atWord]
    · rw [atStopBit_flipParity, atStopBit_atWord]
    · rw [atParityBit_flipParity, atData_flipParity, atParityBit_atWord, atData_atWord]
      exact Bool.not_ne_self _
  case xt => rw [decodeXt_valid (xtStartBit_xtWord fr b), xtData_xtWord]

end Sys2Proof.Machine
end
